-- ==== Sys2Proof/Word.lean ====
section
/-! DEFINITION. The bit vectors of the ports (10_state.md R27). Bits are numbered from 0 at the least significant bit
(00_scope.md R8); no byte order enters the unit (20_memory.md R36). -/

namespace Sys2Proof

/-- A 128-bit port word: the latches A and B and the result registers R0 and R1 (10_state.md R18, R19). -/
abbrev Word := BitVec 128

/-- A 16-bit opcode word (30_encoding.md R44). -/
abbrev Opcode := BitVec 16

/-- The 8-bit status register (10_state.md R20). -/
abbrev Status := BitVec 8

end Sys2Proof
end

