-- ==== Sys2Proof/Syntax.lean ====
section
/-! DEFINITION. The syntax of requests: integer widths, float formats, the four fields of the opcode word, and one
constructor of `Instr` for each of the 63 rows of the opcode map (30_encoding.md R62). -/

namespace Sys2Proof

/-- The integer widths N (00_scope.md R5), coded in SRC by families 1, 2 and 3 (30_encoding.md R47). -/
inductive Width where
  | w32
  | w64
  | w128
  deriving DecidableEq, Repr

/-- The names of the four float formats (00_scope.md R6), coded in SRC and DST (30_encoding.md R48). -/
inductive Fmt where
  | f32
  | f64
  | f80
  | f128
  deriving DecidableEq, Repr

/-- The four fields of the opcode word, format OPW16 (30_encoding.md R44). -/
structure OpWord where
  fam  : BitVec 4
  kind : BitVec 4
  src  : BitVec 4
  dst  : BitVec 4
  deriving DecidableEq, Repr

/-- The operations of the unit, in the order of the opcode map (30_encoding.md R62). No operation has an operand in its
word (R57): operands arrive in the latches A and B. -/
inductive Instr where
  | udivmod32
  | udivmod64
  | udivmod128
  | udiv32
  | udiv64
  | udiv128
  | umod32
  | umod64
  | umod128
  | sdivmod32
  | sdivmod64
  | sdivmod128
  | sdiv32
  | sdiv64
  | sdiv128
  | smod32
  | smod64
  | smod128
  | clz32
  | clz64
  | clz128
  | ctz32
  | ctz64
  | ctz128
  | cvtS32F32
  | cvtS32F64
  | cvtS32F80
  | cvtS32F128
  | cvtS64F32
  | cvtS64F64
  | cvtS64F80
  | cvtS64F128
  | cvtS128F32
  | cvtS128F64
  | cvtS128F80
  | cvtS128F128
  | cvtU32F32
  | cvtU32F64
  | cvtU32F80
  | cvtU32F128
  | cvtU64F32
  | cvtU64F64
  | cvtU64F80
  | cvtU64F128
  | cvtU128F32
  | cvtU128F64
  | cvtU128F80
  | cvtU128F128
  | cvtF32F64
  | cvtF32F80
  | cvtF32F128
  | cvtF64F80
  | cvtF64F128
  | cvtF80F128
  | cvtF64F32
  | cvtF80F32
  | cvtF80F64
  | cvtF128F32
  | cvtF128F64
  | cvtF128F80
  | fmulF32
  | fmulF64
  | fmulF128
  deriving DecidableEq, Repr

end Sys2Proof
end

