-- ==== Sys2Proof/WellFormed.lean ====
section
/-! DEFINITION. Which fields an opcode word may hold: the allowed codes of each field (30_encoding.md R45 to R48) and the use
each family makes of its fields (R49). -/

namespace Sys2Proof

/-- FAM holds one of the five families (30_encoding.md R45). -/
def OpWord.familyOk (o : OpWord) : Bool :=
  o.fam == 1 || o.fam == 2 || o.fam == 3 || o.fam == 4 || o.fam == 5

/-- KIND holds a kind of its family (30_encoding.md R46). -/
def OpWord.kindOk (o : OpWord) : Bool :=
  (o.fam == 1 && (o.kind == 0x0 || o.kind == 0x1 || o.kind == 0x2 || o.kind == 0x8 || o.kind == 0x9 || o.kind == 0xA)) ||
  (o.fam == 2 && (o.kind == 0x0 || o.kind == 0x1)) ||
  (o.fam == 3 && (o.kind == 0x0 || o.kind == 0x8)) ||
  ((o.fam == 4 || o.fam == 5) && o.kind == 0x0)

/-- SRC holds a width code in families 1, 2 and 3 (30_encoding.md R47), a format code in families 4 and 5 (R48), and in family
5 not the code of F80 (R49). -/
def OpWord.srcOk (o : OpWord) : Bool :=
  ((o.fam == 1 || o.fam == 2 || o.fam == 3) && o.src.toNat ≤ 2) ||
  (o.fam == 4 && o.src.toNat ≤ 3) ||
  (o.fam == 5 && (o.src == 0 || o.src == 1 || o.src == 3))

/-- DST is 0 in families 1, 2 and 5 and a format code in families 3 and 4 (30_encoding.md R49). -/
def OpWord.dstOk (o : OpWord) : Bool :=
  ((o.fam == 1 || o.fam == 2 || o.fam == 5) && o.dst == 0) ||
  ((o.fam == 3 || o.fam == 4) && o.dst.toNat ≤ 3)

/-- A conversion between floats has two distinct formats (30_encoding.md R49). -/
def OpWord.formatsDiffer (o : OpWord) : Bool :=
  !(o.fam == 4) || !(o.src == o.dst)

/-- The word is one of the legal words (30_encoding.md R49): a field value the family does not allow makes it reserved. -/
def OpWord.wellFormed (o : OpWord) : Bool :=
  o.familyOk && o.kindOk && o.srcOk && o.dstOk && o.formatsDiffer

end Sys2Proof
end

