-- ==== Sys2Proof/Decode.lean ====
section
/-! DEFINITION. Decoding an opcode word by its fields, rejecting every reserved word by a named reason (30_encoding.md R44 to
R51), and after it the encoder, written from the opcode map (R62). Decode reads nothing but the word (R50). -/

namespace Sys2Proof

/-- Why a word is reserved (30_encoding.md R45 to R49, R61). All have one effect, 60_exceptions.md R166. -/
inductive Reserved where
  /-- FAM is 0 or above 5 (R45). -/
  | family
  /-- KIND is no kind of its family (R46). -/
  | kind
  /-- SRC is no width code (R47). -/
  | width
  /-- SRC or DST is no format code (R48). -/
  | format
  /-- DST is not 0 in a family without destination (R49). -/
  | dstNotZero
  /-- A float conversion from a format to itself (R49). -/
  | sameFormat
  /-- The word of an F80 multiply (46_float_multiply.md R163). -/
  | noF80Multiply
  deriving DecidableEq, Repr

/-- The fields of a word (30_encoding.md R44). -/
def unpack (w : Opcode) : OpWord where
  fam  := w.extractLsb' 12 4
  kind := w.extractLsb' 8 4
  src  := w.extractLsb' 4 4
  dst  := w.extractLsb' 0 4

/-- A width code (30_encoding.md R47). -/
def widthOf (c : BitVec 4) : Except Reserved Width :=
  match c.toNat with
  | 0 => .ok .w32
  | 1 => .ok .w64
  | 2 => .ok .w128
  | _ => .error .width

/-- A format code (30_encoding.md R48). -/
def formatOf (c : BitVec 4) : Except Reserved Fmt :=
  match c.toNat with
  | 0 => .ok .f32
  | 1 => .ok .f64
  | 2 => .ok .f80
  | 3 => .ok .f128
  | _ => .error .format

/-- The families without a destination field hold 0 there (30_encoding.md R49). -/
def requireNoDst (c : BitVec 4) (i : Instr) : Except Reserved Instr :=
  if c = 0 then .ok i else .error .dstNotZero

/-- The integer divisions, by KIND and width (30_encoding.md R46). -/
def divisionOf (kind : BitVec 4) (n : Width) : Except Reserved Instr :=
  match kind.toNat, n with
  | 0, .w32 => .ok .udivmod32
  | 0, .w64 => .ok .udivmod64
  | 0, .w128 => .ok .udivmod128
  | 1, .w32 => .ok .udiv32
  | 1, .w64 => .ok .udiv64
  | 1, .w128 => .ok .udiv128
  | 2, .w32 => .ok .umod32
  | 2, .w64 => .ok .umod64
  | 2, .w128 => .ok .umod128
  | 8, .w32 => .ok .sdivmod32
  | 8, .w64 => .ok .sdivmod64
  | 8, .w128 => .ok .sdivmod128
  | 9, .w32 => .ok .sdiv32
  | 9, .w64 => .ok .sdiv64
  | 9, .w128 => .ok .sdiv128
  | 10, .w32 => .ok .smod32
  | 10, .w64 => .ok .smod64
  | 10, .w128 => .ok .smod128
  | _, _ => .error .kind

/-- The zero counts, by KIND and width (30_encoding.md R46). -/
def zeroCountOf (kind : BitVec 4) (n : Width) : Except Reserved Instr :=
  match kind.toNat, n with
  | 0, .w32 => .ok .clz32
  | 0, .w64 => .ok .clz64
  | 0, .w128 => .ok .clz128
  | 1, .w32 => .ok .ctz32
  | 1, .w64 => .ok .ctz64
  | 1, .w128 => .ok .ctz128
  | _, _ => .error .kind

/-- The integer-to-float conversions, by KIND, source width and destination format (30_encoding.md R46). -/
def intToFloatOf (kind : BitVec 4) (n : Width) (f : Fmt) : Except Reserved Instr :=
  match kind.toNat, n, f with
  | 0, .w32, .f32 => .ok .cvtU32F32
  | 0, .w32, .f64 => .ok .cvtU32F64
  | 0, .w32, .f80 => .ok .cvtU32F80
  | 0, .w32, .f128 => .ok .cvtU32F128
  | 0, .w64, .f32 => .ok .cvtU64F32
  | 0, .w64, .f64 => .ok .cvtU64F64
  | 0, .w64, .f80 => .ok .cvtU64F80
  | 0, .w64, .f128 => .ok .cvtU64F128
  | 0, .w128, .f32 => .ok .cvtU128F32
  | 0, .w128, .f64 => .ok .cvtU128F64
  | 0, .w128, .f80 => .ok .cvtU128F80
  | 0, .w128, .f128 => .ok .cvtU128F128
  | 8, .w32, .f32 => .ok .cvtS32F32
  | 8, .w32, .f64 => .ok .cvtS32F64
  | 8, .w32, .f80 => .ok .cvtS32F80
  | 8, .w32, .f128 => .ok .cvtS32F128
  | 8, .w64, .f32 => .ok .cvtS64F32
  | 8, .w64, .f64 => .ok .cvtS64F64
  | 8, .w64, .f80 => .ok .cvtS64F80
  | 8, .w64, .f128 => .ok .cvtS64F128
  | 8, .w128, .f32 => .ok .cvtS128F32
  | 8, .w128, .f64 => .ok .cvtS128F64
  | 8, .w128, .f80 => .ok .cvtS128F80
  | 8, .w128, .f128 => .ok .cvtS128F128
  | _, _, _ => .error .kind

/-- The float-to-float conversions: source and destination must differ (30_encoding.md R49). -/
def floatConvertOf : Fmt → Fmt → Except Reserved Instr
  | .f32, .f32 => .error .sameFormat
  | .f32, .f64 => .ok .cvtF32F64
  | .f32, .f80 => .ok .cvtF32F80
  | .f32, .f128 => .ok .cvtF32F128
  | .f64, .f32 => .ok .cvtF64F32
  | .f64, .f64 => .error .sameFormat
  | .f64, .f80 => .ok .cvtF64F80
  | .f64, .f128 => .ok .cvtF64F128
  | .f80, .f32 => .ok .cvtF80F32
  | .f80, .f64 => .ok .cvtF80F64
  | .f80, .f80 => .error .sameFormat
  | .f80, .f128 => .ok .cvtF80F128
  | .f128, .f32 => .ok .cvtF128F32
  | .f128, .f64 => .ok .cvtF128F64
  | .f128, .f80 => .ok .cvtF128F80
  | .f128, .f128 => .error .sameFormat

/-- The float multiplications: none in F80 (46_float_multiply.md R163). -/
def floatMultiplyOf : Fmt → Except Reserved Instr
  | .f32  => .ok .fmulF32
  | .f64  => .ok .fmulF64
  | .f80  => .error .noF80Multiply
  | .f128 => .ok .fmulF128

/-- Families 4 and 5 have the one kind 0 (30_encoding.md R46). -/
def requireKindZero (kind : BitVec 4) (r : Except Reserved Instr) : Except Reserved Instr :=
  if kind = 0 then r else .error .kind

/-- The operation the fields name, or why they name none (30_encoding.md R45 to R49). -/
def decodeFields (o : OpWord) : Except Reserved Instr :=
  match o.fam.toNat with
  | 1 => (widthOf o.src).bind fun n => (divisionOf o.kind n).bind (requireNoDst o.dst)
  | 2 => (widthOf o.src).bind fun n => (zeroCountOf o.kind n).bind (requireNoDst o.dst)
  | 3 => (widthOf o.src).bind fun n => (formatOf o.dst).bind fun f => intToFloatOf o.kind n f
  | 4 => requireKindZero o.kind ((formatOf o.src).bind fun f => (formatOf o.dst).bind fun g => floatConvertOf f g)
  | 5 => requireKindZero o.kind ((formatOf o.src).bind fun f => (floatMultiplyOf f).bind (requireNoDst o.dst))
  | _ => .error .family

/-- `decode(OP)` (30_encoding.md R50): the operation of a legal word, or the reason the word is reserved. -/
def decode (w : Opcode) : Except Reserved Instr := decodeFields (unpack w)

/-- The word of four fields (30_encoding.md R44). -/
def pack (o : OpWord) : Opcode := o.fam ++ o.kind ++ o.src ++ o.dst

/-- The rows of the opcode map: FAM, KIND, SRC, DST (30_encoding.md R62). -/
def opWordOf : Instr → OpWord
  | .udivmod32 => ⟨0x1, 0x0, 0x0, 0x0⟩
  | .udivmod64 => ⟨0x1, 0x0, 0x1, 0x0⟩
  | .udivmod128 => ⟨0x1, 0x0, 0x2, 0x0⟩
  | .udiv32 => ⟨0x1, 0x1, 0x0, 0x0⟩
  | .udiv64 => ⟨0x1, 0x1, 0x1, 0x0⟩
  | .udiv128 => ⟨0x1, 0x1, 0x2, 0x0⟩
  | .umod32 => ⟨0x1, 0x2, 0x0, 0x0⟩
  | .umod64 => ⟨0x1, 0x2, 0x1, 0x0⟩
  | .umod128 => ⟨0x1, 0x2, 0x2, 0x0⟩
  | .sdivmod32 => ⟨0x1, 0x8, 0x0, 0x0⟩
  | .sdivmod64 => ⟨0x1, 0x8, 0x1, 0x0⟩
  | .sdivmod128 => ⟨0x1, 0x8, 0x2, 0x0⟩
  | .sdiv32 => ⟨0x1, 0x9, 0x0, 0x0⟩
  | .sdiv64 => ⟨0x1, 0x9, 0x1, 0x0⟩
  | .sdiv128 => ⟨0x1, 0x9, 0x2, 0x0⟩
  | .smod32 => ⟨0x1, 0xA, 0x0, 0x0⟩
  | .smod64 => ⟨0x1, 0xA, 0x1, 0x0⟩
  | .smod128 => ⟨0x1, 0xA, 0x2, 0x0⟩
  | .clz32 => ⟨0x2, 0x0, 0x0, 0x0⟩
  | .clz64 => ⟨0x2, 0x0, 0x1, 0x0⟩
  | .clz128 => ⟨0x2, 0x0, 0x2, 0x0⟩
  | .ctz32 => ⟨0x2, 0x1, 0x0, 0x0⟩
  | .ctz64 => ⟨0x2, 0x1, 0x1, 0x0⟩
  | .ctz128 => ⟨0x2, 0x1, 0x2, 0x0⟩
  | .cvtS32F32 => ⟨0x3, 0x8, 0x0, 0x0⟩
  | .cvtS32F64 => ⟨0x3, 0x8, 0x0, 0x1⟩
  | .cvtS32F80 => ⟨0x3, 0x8, 0x0, 0x2⟩
  | .cvtS32F128 => ⟨0x3, 0x8, 0x0, 0x3⟩
  | .cvtS64F32 => ⟨0x3, 0x8, 0x1, 0x0⟩
  | .cvtS64F64 => ⟨0x3, 0x8, 0x1, 0x1⟩
  | .cvtS64F80 => ⟨0x3, 0x8, 0x1, 0x2⟩
  | .cvtS64F128 => ⟨0x3, 0x8, 0x1, 0x3⟩
  | .cvtS128F32 => ⟨0x3, 0x8, 0x2, 0x0⟩
  | .cvtS128F64 => ⟨0x3, 0x8, 0x2, 0x1⟩
  | .cvtS128F80 => ⟨0x3, 0x8, 0x2, 0x2⟩
  | .cvtS128F128 => ⟨0x3, 0x8, 0x2, 0x3⟩
  | .cvtU32F32 => ⟨0x3, 0x0, 0x0, 0x0⟩
  | .cvtU32F64 => ⟨0x3, 0x0, 0x0, 0x1⟩
  | .cvtU32F80 => ⟨0x3, 0x0, 0x0, 0x2⟩
  | .cvtU32F128 => ⟨0x3, 0x0, 0x0, 0x3⟩
  | .cvtU64F32 => ⟨0x3, 0x0, 0x1, 0x0⟩
  | .cvtU64F64 => ⟨0x3, 0x0, 0x1, 0x1⟩
  | .cvtU64F80 => ⟨0x3, 0x0, 0x1, 0x2⟩
  | .cvtU64F128 => ⟨0x3, 0x0, 0x1, 0x3⟩
  | .cvtU128F32 => ⟨0x3, 0x0, 0x2, 0x0⟩
  | .cvtU128F64 => ⟨0x3, 0x0, 0x2, 0x1⟩
  | .cvtU128F80 => ⟨0x3, 0x0, 0x2, 0x2⟩
  | .cvtU128F128 => ⟨0x3, 0x0, 0x2, 0x3⟩
  | .cvtF32F64 => ⟨0x4, 0x0, 0x0, 0x1⟩
  | .cvtF32F80 => ⟨0x4, 0x0, 0x0, 0x2⟩
  | .cvtF32F128 => ⟨0x4, 0x0, 0x0, 0x3⟩
  | .cvtF64F80 => ⟨0x4, 0x0, 0x1, 0x2⟩
  | .cvtF64F128 => ⟨0x4, 0x0, 0x1, 0x3⟩
  | .cvtF80F128 => ⟨0x4, 0x0, 0x2, 0x3⟩
  | .cvtF64F32 => ⟨0x4, 0x0, 0x1, 0x0⟩
  | .cvtF80F32 => ⟨0x4, 0x0, 0x2, 0x0⟩
  | .cvtF80F64 => ⟨0x4, 0x0, 0x2, 0x1⟩
  | .cvtF128F32 => ⟨0x4, 0x0, 0x3, 0x0⟩
  | .cvtF128F64 => ⟨0x4, 0x0, 0x3, 0x1⟩
  | .cvtF128F80 => ⟨0x4, 0x0, 0x3, 0x2⟩
  | .fmulF32 => ⟨0x5, 0x0, 0x0, 0x0⟩
  | .fmulF64 => ⟨0x5, 0x0, 0x1, 0x0⟩
  | .fmulF128 => ⟨0x5, 0x0, 0x3, 0x0⟩

/-- The word of an operation (30_encoding.md R62). -/
def encode (i : Instr) : Opcode := pack (opWordOf i)

/-- The word of the lowest `nbits` bits of `w`, every bit above them 0. A request has one 16-bit word and no byte order
(30_encoding.md R58; 20_memory.md R36). -/
def tableWord (nbits w : Nat) : Opcode := BitVec.ofNat 16 (w % 2 ^ nbits)

/-- The operation the decoder reads from a row of the opcode table. -/
def decodeTableWord (nbits w : Nat) : Option Instr :=
  match decode (tableWord nbits w) with
  | .ok i => some i
  | .error _ => none

end Sys2Proof
end

