-- ==== Sys2Proof/Machine/Operands.lean ====
section
/-! DEFINITION. Where operands stand in a port and how results fill one (30_encoding.md R52 to R54). -/

namespace Sys2Proof.Machine

/-- An integer operand of width N: the low N bits of its port (30_encoding.md R52). -/
def intOperand (N : Nat) (port : Word) : BitVec N := port.setWidth N

/-- A float operand of `totalBits` bits as a port word: the higher bits are ignored, here read as 0 (30_encoding.md R53). -/
def floatOperand (totalBits : Nat) (port : Word) : Word := (port.setWidth totalBits).setWidth 128

/-- A result of width K as it is written to a result register: bits 127:K are 0, whatever its sign (30_encoding.md R54). -/
def toPort {K : Nat} (v : BitVec K) : Word := v.setWidth 128

end Sys2Proof.Machine
end

