-- ==== Sys2Proof/Machine/Float.lean ====
section
/-! DEFINITION. What the three float families share (43_float_common.md): the format constants, the fields and classes of an
encoding, the exact magnitude of a finite one, the special encodings, and the one rounding function. An encoding stands in the
low bits of a port word, the bits above it are ignored on the way in and 0 on the way out (30_encoding.md R53, R54). -/

namespace Sys2Proof.Machine

/-! ### Formats -/

/-- The source's record of a format (00_scope.md R6); `significandBits` is T, the stored fraction without any integer bit
(90_conflicts.md C5). -/
structure FloatFormat where
  totalBits : Nat
  significandBits : Nat
  exponentBits : Nat
  bias : Nat
  hasImplicitBit : Bool
  deriving DecidableEq, Repr

/-- binary32 (00_scope.md R6). -/
def F32 : FloatFormat := ⟨32, 23, 8, 127, true⟩

/-- binary64 (00_scope.md R6). -/
def F64 : FloatFormat := ⟨64, 52, 11, 1023, true⟩

/-- x86 80-bit extended (00_scope.md R6). -/
def F80 : FloatFormat := ⟨80, 63, 15, 16383, false⟩

/-- binary128 (00_scope.md R6). -/
def F128 : FloatFormat := ⟨128, 112, 15, 16383, true⟩

/-- The least exponent of a Normal number (00_scope.md R6). -/
def FloatFormat.emin (F : FloatFormat) : Int := 1 - F.bias

/-- The greatest exponent of a finite number (00_scope.md R6). -/
def FloatFormat.emax (F : FloatFormat) : Int := F.bias

/-- The exponent field of infinities and NaNs (43_float_common.md R100). -/
def FloatFormat.emaxField (F : FloatFormat) : Nat := 2 ^ F.exponentBits - 1

/-- The bits below the exponent field: the fraction, and for F80 the integer bit J above it (30_encoding.md R55, R56). -/
def FloatFormat.storedBits (F : FloatFormat) : Nat := F.significandBits + (if F.hasImplicitBit then 0 else 1)

/-- The weight of a stored integer bit J in the bits below the exponent field, 0 where the bit is implicit (30_encoding.md R55,
R56). -/
def FloatFormat.integerBit (F : FloatFormat) : Nat := if F.hasImplicitBit then 0 else 2 ^ F.significandBits

/-- The quiet bit of a NaN: the most significant fraction bit (43_float_common.md R108). -/
def FloatFormat.quietBit (F : FloatFormat) : Nat := 2 ^ (F.significandBits - 1)

/-! ### Fields -/

/-- The sign s (30_encoding.md R55, R56). -/
def floatSign (F : FloatFormat) (v : Word) : Bool := v.getLsbD (F.totalBits - 1)

/-- The exponent field e (30_encoding.md R55, R56). -/
def exponentField (F : FloatFormat) (v : Word) : Nat := (v.extractLsb' F.storedBits F.exponentBits).toNat

/-- The explicit integer bit J of F80 (30_encoding.md R56). -/
def explicitBit (F : FloatFormat) (v : Word) : Bool := v.getLsbD F.significandBits

/-- The fraction field f (30_encoding.md R55, R56). -/
def fractionField (F : FloatFormat) (v : Word) : Nat := (v.extractLsb' 0 F.significandBits).toNat

/-- The encoding with sign `s`, exponent field `e`, and `sig` in the bits below it (30_encoding.md R55, R56). -/
def encodeFloat (F : FloatFormat) (s : Bool) (e sig : Nat) : Word :=
  BitVec.ofNat 128 (s.toNat * 2 ^ (F.totalBits - 1) + e * 2 ^ F.storedBits + sig)

/-! ### Classes -/

/-- The classes of an encoding (43_float_common.md R100). -/
inductive FloatClass where
  | zero
  | subnormal
  | normal
  | infinity
  | quietNaN
  | signallingNaN
  | nonCanonical
  deriving DecidableEq, Repr

/-- A NaN, quiet or signalling (43_float_common.md R106). -/
def FloatClass.isNaN (c : FloatClass) : Bool := c == .quietNaN || c == .signallingNaN

/-- A number with a value (43_float_common.md R101). -/
def FloatClass.isFinite (c : FloatClass) : Bool := c == .zero || c == .subnormal || c == .normal

/-- The class of an encoding (43_float_common.md R100). -/
def classify (F : FloatFormat) (v : Word) : FloatClass :=
  let e := exponentField F v
  let f := fractionField F v
  if !F.hasImplicitBit && explicitBit F v != (e != 0) then .nonCanonical
  else if e = 0 then if f = 0 then .zero else .subnormal
  else if e < F.emaxField then .normal
  else if f = 0 then .infinity
  else if f.testBit (F.significandBits - 1) then .quietNaN
  else .signallingNaN

/-! ### Values -/

/-- An exact non-negative number `coeff * 2^exp` (00_scope.md R14: wide integers instead of rationals; log 14). -/
structure Magnitude where
  coeff : Nat
  exp : Int
  deriving DecidableEq, Repr

/-- The magnitude of a finite encoding (43_float_common.md R101). -/
def magnitude (F : FloatFormat) (v : Word) : Magnitude :=
  let e := exponentField F v
  let f := fractionField F v
  if e = 0 then ⟨f, F.emin - F.significandBits⟩
  else ⟨2 ^ F.significandBits + f, (e : Int) - F.bias - F.significandBits⟩

/-- The exact product of two magnitudes. -/
def Magnitude.mul (x y : Magnitude) : Magnitude := ⟨x.coeff * y.coeff, x.exp + y.exp⟩

/-! ### Special encodings -/

/-- Zero of sign `s` (43_float_common.md R102). -/
def floatZero (F : FloatFormat) (s : Bool) : Word := encodeFloat F s 0 0

/-- Infinity of sign `s`; J = 1 in F80 (43_float_common.md R102). -/
def floatInfinity (F : FloatFormat) (s : Bool) : Word := encodeFloat F s F.emaxField F.integerBit

/-- The NaN of sign `s` and fraction `f`; J = 1 in F80 (43_float_common.md R106, R110). -/
def floatNaN (F : FloatFormat) (s : Bool) (f : Nat) : Word := encodeFloat F s F.emaxField (F.integerBit + f)

/-- The default quiet NaN, of positive sign (43_float_common.md R102). -/
def defaultNaN (F : FloatFormat) : Word := floatNaN F false F.quietBit

/-- 1.0 (43_float_common.md R102). -/
def floatOne (F : FloatFormat) : Word := encodeFloat F false F.bias F.integerBit

/-- A quiet NaN of sign `s` whose other fraction bits come from `payload`: what NAN_PAYLOAD_EXACT = false admits
(00_scope.md R7; 43_float_common.md R106, R107). -/
def freeQuietNaN (F : FloatFormat) (s : Bool) (payload : Word) : Word :=
  floatNaN F s (F.quietBit + payload.toNat % F.quietBit)

/-! ### Rounding -/

/-- The integer nearest to `c / 2^d`, the even one on a tie (`rne` of 43_float_common.md R103). -/
def roundShift (c d : Nat) : Nat :=
  let q := c / 2 ^ d
  let rest := c % 2 ^ d
  if 2 * rest < 2 ^ d then q
  else if 2 * rest > 2 ^ d then q + 1
  else if q % 2 = 0 then q else q + 1

/-- The bit-level form of the same rounding for `d ≥ 1` discarded bits (43_float_common.md R104): guard, round and sticky. -/
def roundGuardRoundSticky (c d : Nat) : Nat :=
  let q := c / 2 ^ d
  let g := c.testBit (d - 1)
  let rd := 2 ≤ d && c.testBit (d - 2)
  let st := c % 2 ^ (d - 2) != 0
  q + (g && (rd || st || q.testBit 0)).toNat

/-- The tail of `round_F` (43_float_common.md R103), from the rounded significand `m` at exponent `k`: the carry out of rounding,
overflow, and the two forms of a finite result. -/
def finishRound (F : FloatFormat) (s : Bool) (k : Int) (m : Nat) : Word :=
  let carry := m = 2 ^ (F.significandBits + 1)
  let m' := if carry then 2 ^ F.significandBits else m
  let k' := if carry then k + 1 else k
  if k' > F.emax then floatInfinity F s
  else if 2 ^ F.significandBits ≤ m' then
    encodeFloat F s (k' + F.bias).toNat (F.integerBit + (m' - 2 ^ F.significandBits))
  else encodeFloat F s 0 m'

/-- The exponent of the result's quantum: `max(floor(log2 x), emin)` (43_float_common.md R103). -/
def quantumExponent (F : FloatFormat) (x : Magnitude) : Int := max ((Nat.log2 x.coeff : Int) + x.exp) F.emin

/-- The nearest integer to `x / 2^(k - T)` (43_float_common.md R103). -/
def roundedSignificand (F : FloatFormat) (k : Int) (x : Magnitude) : Nat :=
  let up := x.exp - (k - F.significandBits)
  if 0 ≤ up then x.coeff * 2 ^ up.toNat else roundShift x.coeff (-up).toNat

/-- `round_F(s, x)` (43_float_common.md R103). -/
def roundFloat (F : FloatFormat) (s : Bool) (x : Magnitude) : Word :=
  if x.coeff = 0 then floatZero F s
  else
    let k := quantumExponent F x
    finishRound F s k (roundedSignificand F k x)

end Sys2Proof.Machine
end

