-- ==== Sys2Proof/Config.lean ====
section
/-! DEFINITION. What an implementation fixes and the spec leaves open: the named parameters of 00_scope.md R7 and
92_eei_decisions.md. None has a body, so nothing can be proved of a value of one. -/

namespace Sys2Proof

/-- How a host lays a port value out in bytes (20_memory.md R36). -/
inductive ByteOrder where
  | little
  | big
  deriving DecidableEq, Repr, Inhabited

/-- A source of unspecified values: `draw w k` is the `k`-th value of `w` bits from here on (00_scope.md R13). -/
abbrev Draw := (w : Nat) → Nat → BitVec w

/-- The free input `draw` (00_scope.md R7, R13): the value of width `w` at position `k`. Log 4. -/
opaque Config.draw : Draw

/-- One less than the bound LAT of an opcode word, so that LAT is positive (00_scope.md R7; 70_reset_and_hazards.md R187). -/
opaque Config.latExtra : Opcode → Nat

/-- LAT(OP): the finite, positive bound on the steps from accept to response (00_scope.md R7). Log 5. -/
def Config.lat (op : Opcode) : Nat := Config.latExtra op + 1

/-- The parameter NAN_PAYLOAD_EXACT (00_scope.md R7; 43_float_common.md R106, R107). Log 6. -/
opaque Config.nanPayloadExact : Bool

/-- The parameter HOST_BYTE_ORDER of the host; no rule of the unit reads it (20_memory.md R36), and no definition does. Log 7. -/
opaque Config.hostByteOrder : ByteOrder

end Sys2Proof
end

