-- ==== Sys2Proof/Machine/State.lean ====
section
/-! DEFINITION. The state of the unit: the latches, the result registers and their written marks, STATUS and the phase
(10_state.md R16 to R21), what the host does at the ports in the coming steps (R27), and the state after reset (R31). -/

namespace Sys2Proof.Machine

/-- The phase of the unit (10_state.md R21). -/
inductive Phase where
  | idle
  | busy
  | done
  | halted
  deriving DecidableEq, Repr

/-- What reaches the unit from outside at one step: the input ports (10_state.md R27), and what the spec leaves to the outside
of the unit or to its timing. -/
structure StepInput where
  /-- RST -/
  rst : Bool
  /-- REQ_VALID -/
  reqValid : Bool
  /-- REQ_OP -/
  reqOp : Opcode
  /-- REQ_A -/
  reqA : Word
  /-- REQ_B -/
  reqB : Word
  /-- RSP_READY -/
  rspReady : Bool
  /-- The host uses the value at RSP_R0 in this step (10_state.md R32; log 8). -/
  readR0 : Bool
  /-- The host uses the value at RSP_R1 in this step (10_state.md R32; log 8). -/
  readR1 : Bool
  /-- A request in flight takes a further step, if LAT allows it (10_state.md R29; log 5). -/
  stall : Bool
  /-- The injected fault: an execution takes the fatal outcome (60_exceptions.md R169; log 9). -/
  abort : Bool
  deriving DecidableEq, Repr

/-- A step in which nothing reaches the unit. -/
def StepInput.quiet : StepInput where
  rst := false
  reqValid := false
  reqOp := 0
  reqA := 0
  reqB := 0
  rspReady := false
  readR0 := false
  readR1 := false
  stall := false
  abort := false

/-- The state. -/
structure State where
  /-- The opcode latch OP (10_state.md R18). -/
  op : Opcode
  /-- The operand latch A (10_state.md R18). -/
  a : Word
  /-- The operand latch B (10_state.md R18). -/
  b : Word
  /-- The result register R0 (10_state.md R19). -/
  r0 : Word
  /-- The result register R1 (10_state.md R19). -/
  r1 : Word
  /-- The written mark of R0 (10_state.md R19). -/
  r0Written : Bool
  /-- The written mark of R1 (10_state.md R19). -/
  r1Written : Bool
  /-- STATUS (10_state.md R20). -/
  status : Status
  /-- The phase (10_state.md R21). -/
  phase : Phase
  /-- Steps the request in flight has waited since its accept (the model's own, log 5). -/
  waited : Nat
  /-- Position in the free input `draw` (the model's own, log 4). -/
  drawCount : Nat
  /-- What reaches the unit in the coming steps, the next one first (the model's own, log 1). -/
  inputs : List StepInput
  deriving DecidableEq, Repr

/-- Why a step can stop: the two reads the spec forbids. -/
inductive Fault where
  /-- Raised by a step in which the host uses RSP_R0 or RSP_R1 while that register's written mark is false (10_state.md R32).
  Safe: the model stops where the spec gives no value. -/
  | readUnwritten
  /-- Raised by a step in which the host uses RSP_R0 or RSP_R1 outside the phase DONE (10_state.md R32;
  70_reset_and_hazards.md R183). Safe: the model stops where the spec gives no value. -/
  | readOutsideDone
  deriving DecidableEq, Repr

/-- Why the model has no meaning for an instruction. -/
inductive Refusal where
  /-- Raised by an arm of `exec` whose instruction has no meaning in the model. No arm is left so. Safe. -/
  | notModelled (mnemonic : String)
  deriving DecidableEq, Repr

/-- The three outcomes of this machine. -/
abbrev Outcome := Host.Outcome State Fault Refusal

/-- The state right after reset (10_state.md R31): phase IDLE, STATUS 0, written marks false. The latches and result
registers, which the spec leaves unspecified, hold 0 (DESIGN CHOICE, log 2). -/
def State.reset : State where
  op := 0
  a := 0
  b := 0
  r0 := 0
  r1 := 0
  r0Written := false
  r1Written := false
  status := 0
  phase := .idle
  waited := 0
  drawCount := 0
  inputs := []

end Sys2Proof.Machine
end

