-- ==== Sys2Proof/Machine/Flags.lean ====
section
/-! DEFINITION. The fields of STATUS and every way it is written (10_state.md R20; 60_exceptions.md R164 to R168). -/

namespace Sys2Proof.Machine

/-- Bit 0 of STATUS: the last completed request broke a precondition (10_state.md R20). -/
def State.pv (s : State) : Bool := s.status.getLsbD 0

/-- Bit 1 of STATUS: the last completed request had a reserved word (10_state.md R20). -/
def State.ill (s : State) : Bool := s.status.getLsbD 1

/-- Bit 2 of STATUS: some request since reset set PV (10_state.md R20). -/
def State.pvs (s : State) : Bool := s.status.getLsbD 2

/-- Bit 3 of STATUS: some request since reset set ILL (10_state.md R20). -/
def State.ills (s : State) : Bool := s.status.getLsbD 3

/-- Bit 4 of STATUS: the unit took the fatal abort (10_state.md R20). -/
def State.halt (s : State) : Bool := s.status.getLsbD 4

/-- Bits 7:5 of STATUS, reserved (10_state.md R20). -/
def State.statusReserved (s : State) : BitVec 3 := s.status.extractLsb' 5 3

/-- STATUS after a completed execution: PV and ILL are written together, PVS and ILLS are set with them and never cleared
(10_state.md R20, R29; 60_exceptions.md R165, R167). -/
def statusAfter (st : Status) (pv ill : Bool) : Status :=
  (st &&& 0xFC) ||| (if pv then 0x05 else 0x00) ||| (if ill then 0x0A else 0x00)

/-- STATUS after the fatal abort: HALT is set, the other fields stay (60_exceptions.md R168). -/
def statusHalted (st : Status) : Status := st ||| 0x10

/-- STATUS after reset (10_state.md R31). -/
def statusReset : Status := 0x00

end Sys2Proof.Machine
end

