-- ==== Sys2Proof/Machine/Ops.lean ====
section
/-! DEFINITION. The named operations over the registers: the ports (10_state.md R27), accept, response and deliver (R28 to R30),
the illegal request and the fatal abort (60_exceptions.md R166, R168), reset (70_reset_and_hazards.md R179), and the reads of
the result registers (10_state.md R32). -/

namespace Sys2Proof.Machine

/-! ### The input of a step -/

/-- What reaches the unit at this step; past the end of the list nothing does (log 1). -/
def State.input (s : State) : StepInput := s.inputs.headD .quiet

/-- The state once the input of this step is used up. -/
def State.nextInputs (s : State) : State := { s with inputs := s.inputs.tail }

/-! ### Draws -/

/-- The draws this step may use, the next one at position 0 (00_scope.md R13; log 4). -/
def State.draws (s : State) : Draw := fun w k => Config.draw w (s.drawCount + k)

/-- How far an execution moves the position in `draw`: past every position an operation uses (log 4). -/
def drawsPerExecute : Nat := 6

/-- How far a reset moves the position in `draw`: one draw for each unspecified register (10_state.md R31; log 3). -/
def drawsPerReset : Nat := 5

/-! ### The output ports -/

/-- REQ_READY (10_state.md R21, R27), from the phase at the start of the step, also where RST = 1 (95_test_vectors.md P4). -/
def State.reqReady (s : State) : Bool := s.phase == .idle

/-- RSP_VALID (10_state.md R21, R27), from the phase at the start of the step, also where RST = 1 (95_test_vectors.md P4). -/
def State.rspValid (s : State) : Bool := s.phase == .done

/-- A read of a result register: the spec makes it a fault while its written mark is false and outside DONE (10_state.md R32;
70_reset_and_hazards.md R183; 93_implementation_defined.md §1). Reading changes nothing (20_memory.md R38). -/
def readResult (written : Bool) (phase : Phase) (v : Word) : Except Fault Word :=
  if written = false then .error .readUnwritten
  else if phase ≠ .done then .error .readOutsideDone
  else .ok v

/-- RSP_R0 as the host may use it. -/
def State.rspR0 (s : State) : Except Fault Word := readResult s.r0Written s.phase s.r0

/-- RSP_R1 as the host may use it. -/
def State.rspR1 (s : State) : Except Fault Word := readResult s.r1Written s.phase s.r1

/-- RSP_STATUS, driven and readable in every phase (10_state.md R33). In the first step with RST = 1 it is the STATUS from before
the reset (DEDUCED, log 17). -/
def State.rspStatus (s : State) : Status := s.status

/-- The reads the host makes in this step, R0 first: the first forbidden one is the fault (log 8). -/
def State.hostReads (s : State) : Except Fault Unit :=
  (if s.input.readR0 then s.rspR0.map (fun _ => ()) else .ok ()).bind fun _ =>
    if s.input.readR1 then s.rspR1.map (fun _ => ()) else .ok ()

/-! ### Transitions -/

/-- Accept the request at the ports (10_state.md R28). -/
def State.accept (s : State) (i : StepInput) : State :=
  { s with op := i.reqOp, a := i.reqA, b := i.reqB, phase := .busy, waited := 0 }

/-- A further step in BUSY before the execution (10_state.md R29; log 5). -/
def State.wait (s : State) : State := { s with waited := s.waited + 1 }

/-- What an execution gives: both results and the two per-response bits (10_state.md R29). -/
structure Response where
  r0 : Word
  r1 : Word
  pv : Bool
  ill : Bool
  deriving DecidableEq, Repr

/-- A response of one result without violation: R1 is written 0 (10_state.md R19). -/
def Response.single (r0 : Word) : Response := ⟨r0, 0, false, false⟩

/-- A response of two results without violation (10_state.md R19). -/
def Response.pair (r0 r1 : Word) : Response := ⟨r0, r1, false, false⟩

/-- A response under PV whose one result is a draw; R1 is written 0 (60_exceptions.md R170). -/
def Response.violation (r0 : Word) : Response := ⟨r0, 0, true, false⟩

/-- A response under PV both of whose results are draws (60_exceptions.md R170). -/
def Response.violationPair (r0 r1 : Word) : Response := ⟨r0, r1, true, false⟩

/-- The state after an execution that gives a response (10_state.md R29 (a)). -/
def State.completed (s : State) (x : Response) : State :=
  { s with
    r0 := x.r0
    r1 := x.r1
    r0Written := true
    r1Written := true
    status := statusAfter s.status x.pv x.ill
    phase := .done
    drawCount := s.drawCount + drawsPerExecute }

/-- Outcome (a) of an execution (10_state.md R29). Every meaning ends here. -/
def complete (s : State) (x : Response) : Outcome := .next (s.completed x)

/-- The response to a reserved word: two 128-bit draws, ILL set, PV clear (60_exceptions.md R166, R171). -/
def illegalResponse (draw : Draw) : Response := ⟨draw 128 0, draw 128 1, false, true⟩

/-- The illegal request (60_exceptions.md R166). -/
def raiseIllegal (s : State) : Outcome := complete s (illegalResponse s.draws)

/-- The state after the fatal abort, outcome (b) of an execution (10_state.md R29; 60_exceptions.md R168). -/
def State.aborted (s : State) : State := { s with status := statusHalted s.status, phase := .halted }

/-- Deliver the response (10_state.md R30). -/
def State.deliver (s : State) : State := { s with phase := .idle }

/-- The state at the end of a step with RST = 1 (10_state.md R31; 70_reset_and_hazards.md R179, R180). The registers the spec
leaves unspecified take draws (log 3). During the first step with RST = 1 the ports show the state from before it (log 17). -/
def State.resetStep (s : State) : State :=
  { s with
    op := s.draws 16 0
    a := s.draws 128 1
    b := s.draws 128 2
    r0 := s.draws 128 3
    r1 := s.draws 128 4
    r0Written := false
    r1Written := false
    status := statusReset
    phase := .idle
    waited := 0
    drawCount := s.drawCount + drawsPerReset }

end Sys2Proof.Machine
end

