-- ==== Sys2Proof/Machine/FloatConvert.lean ====
section
/-! DEFINITION. The float-to-float format converter and its 12 operations (45_float_convert.md). -/

namespace Sys2Proof.Machine

/-! ### The conversion -/

/-- The fraction of a NaN carried from S to D: kept from its most significant end, the quiet bit set (43_float_common.md R106). -/
def convertedFraction (S D : FloatFormat) (f : Nat) : Nat :=
  if D.significandBits < S.significandBits then
    f / 2 ^ (S.significandBits - D.significandBits) ||| D.quietBit
  else f * 2 ^ (D.significandBits - S.significandBits) ||| D.quietBit

/-- A NaN through a conversion (43_float_common.md R106): the sign is kept, and the payload too where NAN_PAYLOAD_EXACT holds;
otherwise the payload is free (00_scope.md R7). -/
def convertNaN (S D : FloatFormat) (exact : Bool) (draw : Draw) (v : Word) : Word :=
  if exact then floatNaN D (floatSign S v) (convertedFraction S D (fractionField S v))
  else freeQuietNaN D (floatSign S v) (draw 128 0)

/-- `fcvt` from S to D (45_float_convert.md R140): only a non-canonical F80 operand breaks a precondition, and its result is a
draw of the width of D (43_float_common.md R111). -/
def floatConvert (S D : FloatFormat) (exact : Bool) (draw : Draw) (A : Word) : Response :=
  match classify S A with
  | .nonCanonical => .violation (toPort (draw D.totalBits 0))
  | .quietNaN => .single (convertNaN S D exact draw A)
  | .signallingNaN => .single (convertNaN S D exact draw A)
  | .infinity => .single (floatInfinity D (floatSign S A))
  | .zero => .single (floatZero D (floatSign S A))
  | .subnormal => .single (roundFloat D (floatSign S A) (magnitude S A))
  | .normal => .single (roundFloat D (floatSign S A) (magnitude S A))

/-! ### The operations -/

/-- CVT.F32.F64: F32 to F64 (45_float_convert.md R144). -/
def execCvtF32F64 (s : State) : Outcome :=
  complete s (floatConvert F32 F64 Config.nanPayloadExact s.draws s.a)

/-- CVT.F32.F80: F32 to F80 (45_float_convert.md R145). -/
def execCvtF32F80 (s : State) : Outcome :=
  complete s (floatConvert F32 F80 Config.nanPayloadExact s.draws s.a)

/-- CVT.F32.F128: F32 to F128 (45_float_convert.md R146). -/
def execCvtF32F128 (s : State) : Outcome :=
  complete s (floatConvert F32 F128 Config.nanPayloadExact s.draws s.a)

/-- CVT.F64.F80: F64 to F80 (45_float_convert.md R147). -/
def execCvtF64F80 (s : State) : Outcome :=
  complete s (floatConvert F64 F80 Config.nanPayloadExact s.draws s.a)

/-- CVT.F64.F128: F64 to F128 (45_float_convert.md R148). -/
def execCvtF64F128 (s : State) : Outcome :=
  complete s (floatConvert F64 F128 Config.nanPayloadExact s.draws s.a)

/-- CVT.F80.F128: F80 to F128 (45_float_convert.md R149). -/
def execCvtF80F128 (s : State) : Outcome :=
  complete s (floatConvert F80 F128 Config.nanPayloadExact s.draws s.a)

/-- CVT.F64.F32: F64 to F32 (45_float_convert.md R150). -/
def execCvtF64F32 (s : State) : Outcome :=
  complete s (floatConvert F64 F32 Config.nanPayloadExact s.draws s.a)

/-- CVT.F80.F32: F80 to F32 (45_float_convert.md R151). -/
def execCvtF80F32 (s : State) : Outcome :=
  complete s (floatConvert F80 F32 Config.nanPayloadExact s.draws s.a)

/-- CVT.F80.F64: F80 to F64 (45_float_convert.md R152). -/
def execCvtF80F64 (s : State) : Outcome :=
  complete s (floatConvert F80 F64 Config.nanPayloadExact s.draws s.a)

/-- CVT.F128.F32: F128 to F32 (45_float_convert.md R153). -/
def execCvtF128F32 (s : State) : Outcome :=
  complete s (floatConvert F128 F32 Config.nanPayloadExact s.draws s.a)

/-- CVT.F128.F64: F128 to F64 (45_float_convert.md R154). -/
def execCvtF128F64 (s : State) : Outcome :=
  complete s (floatConvert F128 F64 Config.nanPayloadExact s.draws s.a)

/-- CVT.F128.F80: F128 to F80 (45_float_convert.md R155). -/
def execCvtF128F80 (s : State) : Outcome :=
  complete s (floatConvert F128 F80 Config.nanPayloadExact s.draws s.a)

end Sys2Proof.Machine
end

