-- ==== Sys2Proof/Machine/FloatMultiply.lean ====
section
/-! DEFINITION. The float multiplier and its three operations (46_float_multiply.md). -/

namespace Sys2Proof.Machine

/-! ### The multiplication -/

/-- An operand's NaN with the quiet bit set (43_float_common.md R107). -/
def quieted (F : FloatFormat) (v : Word) : Word := floatOperand F.totalBits v ||| BitVec.ofNat 128 F.quietBit

/-- A NaN result of a multiplication (43_float_common.md R107): the stated one where NAN_PAYLOAD_EXACT holds, otherwise any quiet
NaN of its sign (00_scope.md R7; 92_eei_decisions.md D15). -/
def multiplyNaN (F : FloatFormat) (exact : Bool) (draw : Draw) (stated : Word) : Word :=
  if exact then stated else freeQuietNaN F (floatSign F stated) (draw 128 0)

/-- `fmul` in F (46_float_multiply.md R156): the special cases in their order, then the exact product rounded once (R157). -/
def multiplyFloat (F : FloatFormat) (exact : Bool) (draw : Draw) (a b : Word) : Word :=
  let ca := classify F a
  let cb := classify F b
  let s := Bool.xor (floatSign F a) (floatSign F b)
  if ca.isNaN then multiplyNaN F exact draw (quieted F a)
  else if cb.isNaN then multiplyNaN F exact draw (quieted F b)
  else if (ca = .infinity ∧ cb = .zero) ∨ (ca = .zero ∧ cb = .infinity) then multiplyNaN F exact draw (defaultNaN F)
  else if ca = .infinity ∨ cb = .infinity then floatInfinity F s
  else if ca = .zero ∨ cb = .zero then floatZero F s
  else roundFloat F s ((magnitude F a).mul (magnitude F b))

/-- A multiply operation (46_float_multiply.md §2): it has no precondition. -/
def floatMultiply (F : FloatFormat) (exact : Bool) (draw : Draw) (A B : Word) : Response :=
  .single (multiplyFloat F exact draw A B)

/-! ### The operations -/

/-- FMUL.F32: multiply in F32 (46_float_multiply.md R160). -/
def execFmulF32 (s : State) : Outcome :=
  complete s (floatMultiply F32 Config.nanPayloadExact s.draws s.a s.b)

/-- FMUL.F64: multiply in F64 (46_float_multiply.md R161). -/
def execFmulF64 (s : State) : Outcome :=
  complete s (floatMultiply F64 Config.nanPayloadExact s.draws s.a s.b)

/-- FMUL.F128: multiply in F128 (46_float_multiply.md R162). -/
def execFmulF128 (s : State) : Outcome :=
  complete s (floatMultiply F128 Config.nanPayloadExact s.draws s.a s.b)

end Sys2Proof.Machine
end

