-- ==== Sys2Proof/Machine/UnsignedDivision.lean ====
section
/-! DEFINITION. The Division Engine and the nine unsigned operations (40_unsigned_division.md). -/

namespace Sys2Proof.Machine

/-! ### The engine -/

/-- The engine's leading-zero count, total: N for 0 (40_unsigned_division.md R63). -/
def lz {N : Nat} (x : BitVec N) : Nat := if x = 0 then N else N - 1 - Nat.log2 x.toNat

/-- `divide_N` for a nonzero divisor (40_unsigned_division.md R66). -/
def divide {N : Nat} (n d : BitVec N) : BitVec N × BitVec N :=
  (BitVec.ofNat N (n.toNat / d.toNat), BitVec.ofNat N (n.toNat % d.toNat))

/-- What the engine's loop carries: quotient, remainder and carry (40_unsigned_division.md R65; 10_state.md R25). -/
structure DivideState (N : Nat) where
  q : BitVec N
  r : BitVec N
  carry : BitVec N
  deriving DecidableEq, Repr

/-- One pass of the engine's loop (40_unsigned_division.md R65). -/
def dividePass {N : Nat} (d : BitVec N) (t : DivideState N) : DivideState N :=
  let r := (t.r <<< 1) ||| (t.q >>> (N - 1))
  let q := (t.q <<< 1) ||| t.carry
  let s := (d - r - 1).sshiftRight (N - 1)
  { q := q, r := r - (d &&& s), carry := s &&& 1 }

/-- `k` passes of the engine's loop. -/
def dividePasses {N : Nat} (d : BitVec N) : Nat → DivideState N → DivideState N
  | 0, t => t
  | k + 1, t => dividePasses d k (dividePass d t)

/-- The difference of the leading-zero counts, an integer (40_unsigned_division.md R65). -/
def divideShift {N : Nat} (n d : BitVec N) : Int := (lz d : Int) - (lz n : Int)

/-- How often the loop body runs (40_unsigned_division.md R68). -/
def divideLoopCount {N : Nat} (n d : BitVec N) : Nat :=
  let sr := divideShift n d
  if sr < 0 ∨ sr > (N : Int) - 1 ∨ sr = (N : Int) - 1 then 0 else (sr + 1).toNat

/-- The engine's algorithm (40_unsigned_division.md R65), the reference structure of `divide`: no meaning uses it (log 10). -/
def restoringDivide {N : Nat} (n d : BitVec N) : BitVec N × BitVec N :=
  let sr := divideShift n d
  if sr < 0 ∨ sr > (N : Int) - 1 then (0, n)
  else if sr = (N : Int) - 1 then (n, 0)
  else
    let k := divideLoopCount n d
    let t := dividePasses d k { q := n <<< (N - k), r := n >>> k, carry := 0 }
    ((t.q <<< 1) ||| t.carry, t.r)

/-! ### The operations -/

/-- Divide with remainder (40_unsigned_division.md R69 to R71): under PV both results are draws (R67). -/
def udivmod (N : Nat) (draw : Draw) (A B : Word) : Response :=
  let a := intOperand N A
  let b := intOperand N B
  if b = 0 then .violationPair (toPort (draw N 0)) (toPort (draw N 1))
  else .pair (toPort (divide a b).1) (toPort (divide a b).2)

/-- Quotient (40_unsigned_division.md R72 to R74). -/
def udiv (N : Nat) (draw : Draw) (A B : Word) : Response :=
  let a := intOperand N A
  let b := intOperand N B
  if b = 0 then .violation (toPort (draw N 0)) else .single (toPort (divide a b).1)

/-- Remainder (40_unsigned_division.md R75 to R77). -/
def umod (N : Nat) (draw : Draw) (A B : Word) : Response :=
  let a := intOperand N A
  let b := intOperand N B
  if b = 0 then .violation (toPort (draw N 0)) else .single (toPort (divide a b).2)

/-- UDIVMOD32: unsigned 32-bit divide with remainder (40_unsigned_division.md R69). -/
def execUdivmod32 (s : State) : Outcome := complete s (udivmod 32 s.draws s.a s.b)

/-- UDIVMOD64: unsigned 64-bit divide with remainder (40_unsigned_division.md R70). -/
def execUdivmod64 (s : State) : Outcome := complete s (udivmod 64 s.draws s.a s.b)

/-- UDIVMOD128: unsigned 128-bit divide with remainder (40_unsigned_division.md R71). -/
def execUdivmod128 (s : State) : Outcome := complete s (udivmod 128 s.draws s.a s.b)

/-- UDIV32: unsigned 32-bit quotient (40_unsigned_division.md R72). -/
def execUdiv32 (s : State) : Outcome := complete s (udiv 32 s.draws s.a s.b)

/-- UDIV64: unsigned 64-bit quotient (40_unsigned_division.md R73). -/
def execUdiv64 (s : State) : Outcome := complete s (udiv 64 s.draws s.a s.b)

/-- UDIV128: unsigned 128-bit quotient (40_unsigned_division.md R74). -/
def execUdiv128 (s : State) : Outcome := complete s (udiv 128 s.draws s.a s.b)

/-- UMOD32: unsigned 32-bit remainder (40_unsigned_division.md R75). -/
def execUmod32 (s : State) : Outcome := complete s (umod 32 s.draws s.a s.b)

/-- UMOD64: unsigned 64-bit remainder (40_unsigned_division.md R76). -/
def execUmod64 (s : State) : Outcome := complete s (umod 64 s.draws s.a s.b)

/-- UMOD128: unsigned 128-bit remainder (40_unsigned_division.md R77). -/
def execUmod128 (s : State) : Outcome := complete s (umod 128 s.draws s.a s.b)

end Sys2Proof.Machine
end

