-- ==== Sys2Proof/Machine/SignedDivision.lean ====
section
/-! DEFINITION. The signed adapter over the Division Engine and the nine signed operations (41_signed_division.md). -/

namespace Sys2Proof.Machine

/-! ### The adapter -/

/-- The sign mask: all ones for a negative value, else 0 (41_signed_division.md R78). -/
def smask {N : Nat} (x : BitVec N) : BitVec N := x.sshiftRight (N - 1)

/-- Negate-if: `x` for the mask 0, its two's-complement negation for the mask of all ones (41_signed_division.md R78). -/
def negif {N : Nat} (x m : BitVec N) : BitVec N := (x ^^^ m) - m

/-- `sdivide_N` (41_signed_division.md R79): magnitudes through the engine, both results signed again. -/
def sdivide {N : Nat} (a b : BitVec N) : BitVec N × BitVec N :=
  let sa := smask a
  let sb := smask b
  let u := divide (negif a sa) (negif b sb)
  (negif u.1 (sa ^^^ sb), negif u.2 sa)

/-! ### The operations -/

/-- Signed divide with remainder (41_signed_division.md R82 to R84). -/
def sdivmod (N : Nat) (draw : Draw) (A B : Word) : Response :=
  let a := intOperand N A
  let b := intOperand N B
  if b = 0 then .violationPair (toPort (draw N 0)) (toPort (draw N 1))
  else .pair (toPort (sdivide a b).1) (toPort (sdivide a b).2)

/-- Signed quotient (41_signed_division.md R85 to R87). -/
def sdiv (N : Nat) (draw : Draw) (A B : Word) : Response :=
  let a := intOperand N A
  let b := intOperand N B
  if b = 0 then .violation (toPort (draw N 0)) else .single (toPort (sdivide a b).1)

/-- Signed remainder (41_signed_division.md R88 to R90). -/
def smod (N : Nat) (draw : Draw) (A B : Word) : Response :=
  let a := intOperand N A
  let b := intOperand N B
  if b = 0 then .violation (toPort (draw N 0)) else .single (toPort (sdivide a b).2)

/-- SDIVMOD32: signed 32-bit divide with remainder (41_signed_division.md R82). -/
def execSdivmod32 (s : State) : Outcome := complete s (sdivmod 32 s.draws s.a s.b)

/-- SDIVMOD64: signed 64-bit divide with remainder (41_signed_division.md R83). -/
def execSdivmod64 (s : State) : Outcome := complete s (sdivmod 64 s.draws s.a s.b)

/-- SDIVMOD128: signed 128-bit divide with remainder (41_signed_division.md R84). -/
def execSdivmod128 (s : State) : Outcome := complete s (sdivmod 128 s.draws s.a s.b)

/-- SDIV32: signed 32-bit quotient (41_signed_division.md R85). -/
def execSdiv32 (s : State) : Outcome := complete s (sdiv 32 s.draws s.a s.b)

/-- SDIV64: signed 64-bit quotient (41_signed_division.md R86). -/
def execSdiv64 (s : State) : Outcome := complete s (sdiv 64 s.draws s.a s.b)

/-- SDIV128: signed 128-bit quotient (41_signed_division.md R87). -/
def execSdiv128 (s : State) : Outcome := complete s (sdiv 128 s.draws s.a s.b)

/-- SMOD32: signed 32-bit remainder (41_signed_division.md R88). -/
def execSmod32 (s : State) : Outcome := complete s (smod 32 s.draws s.a s.b)

/-- SMOD64: signed 64-bit remainder (41_signed_division.md R89). -/
def execSmod64 (s : State) : Outcome := complete s (smod 64 s.draws s.a s.b)

/-- SMOD128: signed 128-bit remainder (41_signed_division.md R90). -/
def execSmod128 (s : State) : Outcome := complete s (smod 128 s.draws s.a s.b)

end Sys2Proof.Machine
end

