-- ==== Sys2Proof/Machine/IntToFloat.lean ====
section
/-! DEFINITION. The integer-to-float converter and its 24 operations (44_int_to_float.md). -/

namespace Sys2Proof.Machine

/-! ### The conversion -/

/-- The sign of an integer read signed or unsigned (44_int_to_float.md R113). -/
def integerSign {N : Nat} (signed : Bool) (x : BitVec N) : Bool := signed && x.msb

/-- The magnitude of an integer read signed or unsigned, exact for the least signed value too (44_int_to_float.md R113;
41_signed_division.md R78). -/
def integerMagnitude {N : Nat} (signed : Bool) (x : BitVec N) : BitVec N :=
  if signed then negif x (smask x) else x

/-- `itof` (44_int_to_float.md R113): zero gives +0, every other integer is rounded once from its exact magnitude; the carry out
of rounding goes into the exponent (R114; 90_conflicts.md C1). -/
def integerToFloat (N : Nat) (F : FloatFormat) (signed : Bool) (x : BitVec N) : Word :=
  if x = 0 then floatZero F false
  else roundFloat F (integerSign signed x) ⟨(integerMagnitude signed x).toNat, 0⟩

/-- A conversion operation (44_int_to_float.md §2): it has no precondition. -/
def intToFloat (N : Nat) (F : FloatFormat) (signed : Bool) (A : Word) : Response :=
  .single (integerToFloat N F signed (intOperand N A))

/-! ### The operations -/

/-- CVT.S32.F32: signed 32-bit integer to F32 (44_int_to_float.md R116). -/
def execCvtS32F32 (s : State) : Outcome := complete s (intToFloat 32 F32 true s.a)

/-- CVT.S32.F64: signed 32-bit integer to F64 (44_int_to_float.md R117). -/
def execCvtS32F64 (s : State) : Outcome := complete s (intToFloat 32 F64 true s.a)

/-- CVT.S32.F80: signed 32-bit integer to F80 (44_int_to_float.md R118). -/
def execCvtS32F80 (s : State) : Outcome := complete s (intToFloat 32 F80 true s.a)

/-- CVT.S32.F128: signed 32-bit integer to F128 (44_int_to_float.md R119). -/
def execCvtS32F128 (s : State) : Outcome := complete s (intToFloat 32 F128 true s.a)

/-- CVT.S64.F32: signed 64-bit integer to F32 (44_int_to_float.md R120). -/
def execCvtS64F32 (s : State) : Outcome := complete s (intToFloat 64 F32 true s.a)

/-- CVT.S64.F64: signed 64-bit integer to F64 (44_int_to_float.md R121). -/
def execCvtS64F64 (s : State) : Outcome := complete s (intToFloat 64 F64 true s.a)

/-- CVT.S64.F80: signed 64-bit integer to F80 (44_int_to_float.md R122). -/
def execCvtS64F80 (s : State) : Outcome := complete s (intToFloat 64 F80 true s.a)

/-- CVT.S64.F128: signed 64-bit integer to F128 (44_int_to_float.md R123). -/
def execCvtS64F128 (s : State) : Outcome := complete s (intToFloat 64 F128 true s.a)

/-- CVT.S128.F32: signed 128-bit integer to F32 (44_int_to_float.md R124). -/
def execCvtS128F32 (s : State) : Outcome := complete s (intToFloat 128 F32 true s.a)

/-- CVT.S128.F64: signed 128-bit integer to F64 (44_int_to_float.md R125). -/
def execCvtS128F64 (s : State) : Outcome := complete s (intToFloat 128 F64 true s.a)

/-- CVT.S128.F80: signed 128-bit integer to F80 (44_int_to_float.md R126). -/
def execCvtS128F80 (s : State) : Outcome := complete s (intToFloat 128 F80 true s.a)

/-- CVT.S128.F128: signed 128-bit integer to F128 (44_int_to_float.md R127). -/
def execCvtS128F128 (s : State) : Outcome := complete s (intToFloat 128 F128 true s.a)

/-- CVT.U32.F32: unsigned 32-bit integer to F32 (44_int_to_float.md R128). -/
def execCvtU32F32 (s : State) : Outcome := complete s (intToFloat 32 F32 false s.a)

/-- CVT.U32.F64: unsigned 32-bit integer to F64 (44_int_to_float.md R129). -/
def execCvtU32F64 (s : State) : Outcome := complete s (intToFloat 32 F64 false s.a)

/-- CVT.U32.F80: unsigned 32-bit integer to F80 (44_int_to_float.md R130). -/
def execCvtU32F80 (s : State) : Outcome := complete s (intToFloat 32 F80 false s.a)

/-- CVT.U32.F128: unsigned 32-bit integer to F128 (44_int_to_float.md R131). -/
def execCvtU32F128 (s : State) : Outcome := complete s (intToFloat 32 F128 false s.a)

/-- CVT.U64.F32: unsigned 64-bit integer to F32 (44_int_to_float.md R132). -/
def execCvtU64F32 (s : State) : Outcome := complete s (intToFloat 64 F32 false s.a)

/-- CVT.U64.F64: unsigned 64-bit integer to F64 (44_int_to_float.md R133). -/
def execCvtU64F64 (s : State) : Outcome := complete s (intToFloat 64 F64 false s.a)

/-- CVT.U64.F80: unsigned 64-bit integer to F80 (44_int_to_float.md R134). -/
def execCvtU64F80 (s : State) : Outcome := complete s (intToFloat 64 F80 false s.a)

/-- CVT.U64.F128: unsigned 64-bit integer to F128 (44_int_to_float.md R135). -/
def execCvtU64F128 (s : State) : Outcome := complete s (intToFloat 64 F128 false s.a)

/-- CVT.U128.F32: unsigned 128-bit integer to F32 (44_int_to_float.md R136). -/
def execCvtU128F32 (s : State) : Outcome := complete s (intToFloat 128 F32 false s.a)

/-- CVT.U128.F64: unsigned 128-bit integer to F64 (44_int_to_float.md R137). -/
def execCvtU128F64 (s : State) : Outcome := complete s (intToFloat 128 F64 false s.a)

/-- CVT.U128.F80: unsigned 128-bit integer to F80 (44_int_to_float.md R138). -/
def execCvtU128F80 (s : State) : Outcome := complete s (intToFloat 128 F80 false s.a)

/-- CVT.U128.F128: unsigned 128-bit integer to F128 (44_int_to_float.md R139). -/
def execCvtU128F128 (s : State) : Outcome := complete s (intToFloat 128 F128 false s.a)

end Sys2Proof.Machine
end

