-- ==== Sys2Proof/Machine/ZeroCount.lean ====
section
/-! DEFINITION. The leading and trailing zero counter: 32-bit base counts, the wider counts composed of them by masks, and the
six operations (42_zero_count.md). -/

namespace Sys2Proof.Machine

/-! ### The counts -/

/-- A base count's value for 0 is unspecified: `u k` stands for the value the `k`-th base count of an operation gives there
(42_zero_count.md R91; log 13). -/
abbrev CountOfZero := Nat → BitVec 32

/-- How many of the lowest `fuel` bits of `x` are 0 below its first 1. -/
def lowZeros : Nat → Nat → Nat
  | 0, _ => 0
  | fuel + 1, x => if x % 2 = 1 then 0 else lowZeros fuel (x / 2) + 1

/-- The base leading-zero count (42_zero_count.md R91). -/
def clz32 (u : BitVec 32) (x : BitVec 32) : BitVec 32 :=
  if x = 0 then u else BitVec.ofNat 32 (31 - Nat.log2 x.toNat)

/-- The base trailing-zero count (42_zero_count.md R91). -/
def ctz32 (u : BitVec 32) (x : BitVec 32) : BitVec 32 :=
  if x = 0 then u else BitVec.ofNat 32 (lowZeros 32 x.toNat)

/-- The mask the compositions select by: all ones when the half is 0 (42_zero_count.md R92, R93; 90_conflicts.md C3). -/
def zeroMask {K : Nat} (half : BitVec K) : BitVec 32 := if half = 0 then BitVec.allOnes 32 else 0

/-- The branch-free selection of both compositions (42_zero_count.md R92, R93). -/
def selectCount (m whenClear whenSet : BitVec 32) : BitVec 32 := (whenClear &&& ~~~m) ||| (whenSet &&& m)

/-- The 64-bit leading-zero count (42_zero_count.md R92, K = 32). -/
def clz64 (u : CountOfZero) (x : BitVec 64) : BitVec 32 :=
  let h := x.extractLsb' 32 32
  let l := x.extractLsb' 0 32
  selectCount (zeroMask h) (clz32 (u 0) h) (32 + clz32 (u 1) l)

/-- The 128-bit leading-zero count (42_zero_count.md R92, K = 64). -/
def clz128 (u : CountOfZero) (x : BitVec 128) : BitVec 32 :=
  let h := x.extractLsb' 64 64
  let l := x.extractLsb' 0 64
  selectCount (zeroMask h) (clz64 u h) (64 + clz64 (fun k => u (k + 2)) l)

/-- The 64-bit trailing-zero count (42_zero_count.md R93, K = 32). -/
def ctz64 (u : CountOfZero) (x : BitVec 64) : BitVec 32 :=
  let h := x.extractLsb' 32 32
  let l := x.extractLsb' 0 32
  selectCount (zeroMask l) (ctz32 (u 0) l) (32 + ctz32 (u 1) h)

/-- The 128-bit trailing-zero count (42_zero_count.md R93, K = 64). -/
def ctz128 (u : CountOfZero) (x : BitVec 128) : BitVec 32 :=
  let h := x.extractLsb' 64 64
  let l := x.extractLsb' 0 64
  selectCount (zeroMask l) (ctz64 u l) (64 + ctz64 (fun k => u (k + 2)) h)

/-! ### The operations -/

/-- A count operation at width N (42_zero_count.md §2): a zero operand breaks the precondition, and the result is then the draw
at position 0; the base counts of zero inside `count` take the draws from position 2 on. -/
def zeroCount (N : Nat) (count : CountOfZero → BitVec N → BitVec 32) (draw : Draw) (A : Word) : Response :=
  let x := intOperand N A
  if x = 0 then .violation (toPort (draw 32 0))
  else .single (toPort (count (fun k => draw 32 (k + 2)) x))

/-- CLZ32: leading zeros of a 32-bit value (42_zero_count.md R94). -/
def execClz32 (s : State) : Outcome := complete s (zeroCount 32 (fun u => clz32 (u 0)) s.draws s.a)

/-- CLZ64: leading zeros of a 64-bit value (42_zero_count.md R95). -/
def execClz64 (s : State) : Outcome := complete s (zeroCount 64 clz64 s.draws s.a)

/-- CLZ128: leading zeros of a 128-bit value (42_zero_count.md R96). -/
def execClz128 (s : State) : Outcome := complete s (zeroCount 128 clz128 s.draws s.a)

/-- CTZ32: trailing zeros of a 32-bit value (42_zero_count.md R97). -/
def execCtz32 (s : State) : Outcome := complete s (zeroCount 32 (fun u => ctz32 (u 0)) s.draws s.a)

/-- CTZ64: trailing zeros of a 64-bit value (42_zero_count.md R98). -/
def execCtz64 (s : State) : Outcome := complete s (zeroCount 64 ctz64 s.draws s.a)

/-- CTZ128: trailing zeros of a 128-bit value (42_zero_count.md R99). -/
def execCtz128 (s : State) : Outcome := complete s (zeroCount 128 ctz128 s.draws s.a)

end Sys2Proof.Machine
end

