-- ==== Sys2Proof/Machine/Dispatch.lean ====
section
/-! DEFINITION. The execution of an operation on the latched operands (10_state.md R29), one meaning per operation. -/

namespace Sys2Proof.Machine

/-- `exec(OP, A, B)` once OP is decoded (10_state.md R29). -/
def exec (i : Instr) (s : State) : Host.Outcome State Fault Refusal :=
  match i with
  | .udivmod32 => Sys2Proof.Machine.execUdivmod32 s
  | .udivmod64 => Sys2Proof.Machine.execUdivmod64 s
  | .udivmod128 => Sys2Proof.Machine.execUdivmod128 s
  | .udiv32 => Sys2Proof.Machine.execUdiv32 s
  | .udiv64 => Sys2Proof.Machine.execUdiv64 s
  | .udiv128 => Sys2Proof.Machine.execUdiv128 s
  | .umod32 => Sys2Proof.Machine.execUmod32 s
  | .umod64 => Sys2Proof.Machine.execUmod64 s
  | .umod128 => Sys2Proof.Machine.execUmod128 s
  | .sdivmod32 => Sys2Proof.Machine.execSdivmod32 s
  | .sdivmod64 => Sys2Proof.Machine.execSdivmod64 s
  | .sdivmod128 => Sys2Proof.Machine.execSdivmod128 s
  | .sdiv32 => Sys2Proof.Machine.execSdiv32 s
  | .sdiv64 => Sys2Proof.Machine.execSdiv64 s
  | .sdiv128 => Sys2Proof.Machine.execSdiv128 s
  | .smod32 => Sys2Proof.Machine.execSmod32 s
  | .smod64 => Sys2Proof.Machine.execSmod64 s
  | .smod128 => Sys2Proof.Machine.execSmod128 s
  | .clz32 => Sys2Proof.Machine.execClz32 s
  | .clz64 => Sys2Proof.Machine.execClz64 s
  | .clz128 => Sys2Proof.Machine.execClz128 s
  | .ctz32 => Sys2Proof.Machine.execCtz32 s
  | .ctz64 => Sys2Proof.Machine.execCtz64 s
  | .ctz128 => Sys2Proof.Machine.execCtz128 s
  | .cvtS32F32 => Sys2Proof.Machine.execCvtS32F32 s
  | .cvtS32F64 => Sys2Proof.Machine.execCvtS32F64 s
  | .cvtS32F80 => Sys2Proof.Machine.execCvtS32F80 s
  | .cvtS32F128 => Sys2Proof.Machine.execCvtS32F128 s
  | .cvtS64F32 => Sys2Proof.Machine.execCvtS64F32 s
  | .cvtS64F64 => Sys2Proof.Machine.execCvtS64F64 s
  | .cvtS64F80 => Sys2Proof.Machine.execCvtS64F80 s
  | .cvtS64F128 => Sys2Proof.Machine.execCvtS64F128 s
  | .cvtS128F32 => Sys2Proof.Machine.execCvtS128F32 s
  | .cvtS128F64 => Sys2Proof.Machine.execCvtS128F64 s
  | .cvtS128F80 => Sys2Proof.Machine.execCvtS128F80 s
  | .cvtS128F128 => Sys2Proof.Machine.execCvtS128F128 s
  | .cvtU32F32 => Sys2Proof.Machine.execCvtU32F32 s
  | .cvtU32F64 => Sys2Proof.Machine.execCvtU32F64 s
  | .cvtU32F80 => Sys2Proof.Machine.execCvtU32F80 s
  | .cvtU32F128 => Sys2Proof.Machine.execCvtU32F128 s
  | .cvtU64F32 => Sys2Proof.Machine.execCvtU64F32 s
  | .cvtU64F64 => Sys2Proof.Machine.execCvtU64F64 s
  | .cvtU64F80 => Sys2Proof.Machine.execCvtU64F80 s
  | .cvtU64F128 => Sys2Proof.Machine.execCvtU64F128 s
  | .cvtU128F32 => Sys2Proof.Machine.execCvtU128F32 s
  | .cvtU128F64 => Sys2Proof.Machine.execCvtU128F64 s
  | .cvtU128F80 => Sys2Proof.Machine.execCvtU128F80 s
  | .cvtU128F128 => Sys2Proof.Machine.execCvtU128F128 s
  | .cvtF32F64 => Sys2Proof.Machine.execCvtF32F64 s
  | .cvtF32F80 => Sys2Proof.Machine.execCvtF32F80 s
  | .cvtF32F128 => Sys2Proof.Machine.execCvtF32F128 s
  | .cvtF64F80 => Sys2Proof.Machine.execCvtF64F80 s
  | .cvtF64F128 => Sys2Proof.Machine.execCvtF64F128 s
  | .cvtF80F128 => Sys2Proof.Machine.execCvtF80F128 s
  | .cvtF64F32 => Sys2Proof.Machine.execCvtF64F32 s
  | .cvtF80F32 => Sys2Proof.Machine.execCvtF80F32 s
  | .cvtF80F64 => Sys2Proof.Machine.execCvtF80F64 s
  | .cvtF128F32 => Sys2Proof.Machine.execCvtF128F32 s
  | .cvtF128F64 => Sys2Proof.Machine.execCvtF128F64 s
  | .cvtF128F80 => Sys2Proof.Machine.execCvtF128F80 s
  | .fmulF32 => Sys2Proof.Machine.execFmulF32 s
  | .fmulF64 => Sys2Proof.Machine.execFmulF64 s
  | .fmulF128 => Sys2Proof.Machine.execFmulF128 s

end Sys2Proof.Machine
end

