-- ==== Sys2Proof/Machine/Step.lean ====
section
/-! DEFINITION. One step of the unit: the host's reads, then reset, then what the phase does (10_state.md R28 to R30;
70_reset_and_hazards.md R179). -/

namespace Sys2Proof.Machine

/-- The execution of the latched request (10_state.md R29): decode, then the operation, or R166 for a reserved word. -/
def executeLatched (s : State) : Outcome :=
  match decode s.op with
  | .ok i => exec i s
  | .error _ => raiseIllegal s

/-- A request in flight takes another step: the input asks for it and LAT(OP) allows it (10_state.md R29; log 5). -/
def State.keepsWaiting (s : State) (i : StepInput) : Bool := i.stall && decide (s.waited + 1 < Config.lat s.op)

/-- What a step does in each phase with RST = 0. In HALTED nothing happens until reset (60_exceptions.md R168). -/
def phaseStep (i : StepInput) (s : State) : Outcome :=
  match s.phase with
  | .idle => .next (if i.reqValid then s.accept i else s)
  | .busy =>
    if s.keepsWaiting i then .next s.wait
    else if i.abort then .next s.aborted
    else executeLatched s
  | .done => .next (if i.rspReady then s.deliver else s)
  | .halted => .next s

/-- One step. A forbidden read stops the model (10_state.md R32), judged on the phase at the start of the step (log 8), also where RST = 1 (log 17); RST has
precedence over the request and response ports (70_reset_and_hazards.md R179). -/
def step (s : State) : Host.Outcome State Fault Refusal :=
  match s.hostReads with
  | .error f => .fault f
  | .ok _ => if s.input.rst then .next s.nextInputs.resetStep else phaseStep s.input s.nextInputs

/-- `s` with the opcode word `w` latched and about to execute: phase BUSY, no step waited yet, and a quiet input put before the
others, so that the next step runs it (log 11). -/
def State.withFetchWord (s : State) (nbits w : Nat) : State :=
  { s with op := tableWord nbits w, phase := .busy, waited := 0, inputs := .quiet :: s.inputs }

end Sys2Proof.Machine
end

