-- ==== Sys2Proof/Machine/FloatReference.lean ====
section
/-! DEFINITION. The float rules in exact rationals, as 43_float_common.md writes them: the value of an encoding (R101) and
`round_F` (R103). The meanings compute with `Magnitude` instead (log 14); statements are made in these terms. -/

namespace Sys2Proof.Machine

/-- The rational a magnitude denotes. -/
def Magnitude.value (x : Magnitude) : ℚ := (x.coeff : ℚ) * (2 : ℚ) ^ x.exp

/-- `value(F, v)` of a finite encoding (43_float_common.md R101). -/
def floatValue (F : FloatFormat) (v : Word) : ℚ :=
  (if floatSign F v then -1 else 1) * (magnitude F v).value

/-- `rne(m)` (43_float_common.md R103). -/
def nearestEven (m : ℚ) : Nat :=
  let q := ⌊m⌋₊
  if m - q < 1 / 2 then q
  else if m - q > 1 / 2 then q + 1
  else if q % 2 = 0 then q else q + 1

/-- `round_F(s, x)` of an exact rational `x ≥ 0` (43_float_common.md R103). -/
def roundRational (F : FloatFormat) (s : Bool) (x : ℚ) : Word :=
  if x = 0 then floatZero F s
  else
    let k := max (Int.log 2 x) F.emin
    finishRound F s k (nearestEven (x / (2 : ℚ) ^ (k - F.significandBits)))

end Sys2Proof.Machine
end

