-- ==== Sys2Proof/Safety.lean ====
section
/-! DEFINITION. The terms claims are stated in: the invariant of reachable states, the states whose next step reads nothing
forbidden, and a host that keeps its request stable. -/

namespace Sys2Proof.Machine

/-- What every reachable state satisfies. -/
structure State.Inv (s : State) : Prop where
  /-- The reserved bits of STATUS are 0 (10_state.md R20). -/
  reservedClear : s.statusReserved = 0
  /-- A violation in the last response is in the sticky bit too (60_exceptions.md R165). -/
  pvSticky : s.pv = true → s.pvs = true
  /-- An illegal word in the last response is in the sticky bit too (60_exceptions.md R167). -/
  illSticky : s.ill = true → s.ills = true
  /-- PV and ILL are never both 1 (60_exceptions.md R172). -/
  notBoth : ¬(s.pv = true ∧ s.ill = true)
  /-- HALT is 1 exactly in the phase HALTED (10_state.md R33; 60_exceptions.md R168). -/
  haltIffHalted : s.halt = true ↔ s.phase = .halted
  /-- The two results are written together (10_state.md R29). -/
  marksAgree : s.r0Written = s.r1Written
  /-- A response is presented only once there is one (10_state.md R29). -/
  doneWritten : s.phase = .done → s.r0Written = true
  /-- A completed request that broke a rule has written the registers (10_state.md R29). -/
  reportedWritten : s.pv = true ∨ s.ill = true → s.r0Written = true
  /-- A request in flight is within its bound (10_state.md R29). -/
  withinLat : s.phase = .busy → s.waited < Config.lat s.op

/-- The next step makes no forbidden read (10_state.md R32). -/
def State.ReadsAllowed (s : State) : Prop := s.hostReads = .ok ()

/-- The host keeps a request it presents and the unit does not accept (70_reset_and_hazards.md R184): an obligation of the host,
which no rule of the unit assumes. -/
def State.HostKeepsRequest (s : State) : Prop :=
  s.input.reqValid = true → s.reqReady = false →
    s.nextInputs.input.reqValid = true ∧ s.nextInputs.input.reqOp = s.input.reqOp ∧
    s.nextInputs.input.reqA = s.input.reqA ∧ s.nextInputs.input.reqB = s.input.reqB

end Sys2Proof.Machine
end

