-- ==== Sys2Proof/Certificates/Slice0/Obligations.lean ====
section
/-! DEFINITION. The statements for the provers, and the words they are written in. -/

namespace Sys2Proof.Machine

/-! ### Words of the statements -/

/-- `t` is the state after an execution from `s` that answers `(r0, r1, pv, ill)` (10_state.md R29 (a)): the results and their
marks, STATUS field by field, the phase; and the frame: the latches, the inputs and the rest of STATUS as before. -/
def Responds (s t : State) (r0 r1 : Word) (pv ill : Bool) : Prop :=
  t.r0 = r0 ∧ t.r1 = r1 ∧ t.r0Written = true ∧ t.r1Written = true ∧ t.phase = .done ∧
  t.pv = pv ∧ t.ill = ill ∧ t.pvs = (s.pvs || pv) ∧ t.ills = (s.ills || ill) ∧
  t.halt = s.halt ∧ t.statusReserved = s.statusReserved ∧
  t.op = s.op ∧ t.a = s.a ∧ t.b = s.b ∧ t.waited = s.waited ∧ t.inputs = s.inputs

/-- Operation `i` completes from `s` with `(r0, r1, pv)` and ILL = 0. -/
def Answers (i : Instr) (s : State) (r0 r1 : Word) (pv : Bool) : Prop :=
  ∃ t, exec i s = .next t ∧ Responds s t r0 r1 pv false

/-- The draw of `w` bits at position `k` of the free input, zero-extended to a port (00_scope.md R13; 60_exceptions.md R170). -/
def drawn (s : State) (w k : Nat) : Word := (Config.draw w (s.drawCount + k)).setWidth 128

/-- Word `w` is an N-bit unsigned divide with remainder (40_unsigned_division.md R69 to R71). -/
def IsUDivMod (w : Opcode) (i : Instr) (N : Nat) : Prop :=
  decode w = .ok i ∧ ∀ s : State,
    (s.b.toNat % 2 ^ N ≠ 0 →
      Answers i s (BitVec.ofNat 128 (s.a.toNat % 2 ^ N / (s.b.toNat % 2 ^ N)))
        (BitVec.ofNat 128 (s.a.toNat % 2 ^ N % (s.b.toNat % 2 ^ N))) false) ∧
    (s.b.toNat % 2 ^ N = 0 → Answers i s (drawn s N 0) (drawn s N 1) true)

/-- Word `w` is an N-bit unsigned quotient (40_unsigned_division.md R72 to R74). -/
def IsUDiv (w : Opcode) (i : Instr) (N : Nat) : Prop :=
  decode w = .ok i ∧ ∀ s : State,
    (s.b.toNat % 2 ^ N ≠ 0 →
      Answers i s (BitVec.ofNat 128 (s.a.toNat % 2 ^ N / (s.b.toNat % 2 ^ N))) 0 false) ∧
    (s.b.toNat % 2 ^ N = 0 → Answers i s (drawn s N 0) 0 true)

/-- Word `w` is an N-bit unsigned remainder (40_unsigned_division.md R75 to R77). -/
def IsUMod (w : Opcode) (i : Instr) (N : Nat) : Prop :=
  decode w = .ok i ∧ ∀ s : State,
    (s.b.toNat % 2 ^ N ≠ 0 →
      Answers i s (BitVec.ofNat 128 (s.a.toNat % 2 ^ N % (s.b.toNat % 2 ^ N))) 0 false) ∧
    (s.b.toNat % 2 ^ N = 0 → Answers i s (drawn s N 0) 0 true)

/-- The signed reading of the low N bits of a port (00_scope.md R9; 30_encoding.md R52). -/
def signedOf (N : Nat) (p : Word) : Int := (p.setWidth N).toInt

/-- An integer as an N-bit two's-complement result, zero-extended to a port (30_encoding.md R54). -/
def signedResult (N : Nat) (x : Int) : Word := (BitVec.ofInt N x).setWidth 128

/-- Word `w` is an N-bit signed divide with remainder (41_signed_division.md R82 to R84): truncation toward zero, remainder of
the dividend's sign, the overflowing quotient wrapped (R80, R81). -/
def IsSDivMod (w : Opcode) (i : Instr) (N : Nat) : Prop :=
  decode w = .ok i ∧ ∀ s : State,
    (signedOf N s.b ≠ 0 →
      Answers i s (signedResult N ((signedOf N s.a).tdiv (signedOf N s.b)))
        (signedResult N ((signedOf N s.a).tmod (signedOf N s.b))) false) ∧
    (signedOf N s.b = 0 → Answers i s (drawn s N 0) (drawn s N 1) true)

/-- Word `w` is an N-bit signed quotient (41_signed_division.md R85 to R87). -/
def IsSDiv (w : Opcode) (i : Instr) (N : Nat) : Prop :=
  decode w = .ok i ∧ ∀ s : State,
    (signedOf N s.b ≠ 0 → Answers i s (signedResult N ((signedOf N s.a).tdiv (signedOf N s.b))) 0 false) ∧
    (signedOf N s.b = 0 → Answers i s (drawn s N 0) 0 true)

/-- Word `w` is an N-bit signed remainder (41_signed_division.md R88 to R90). -/
def IsSMod (w : Opcode) (i : Instr) (N : Nat) : Prop :=
  decode w = .ok i ∧ ∀ s : State,
    (signedOf N s.b ≠ 0 → Answers i s (signedResult N ((signedOf N s.a).tmod (signedOf N s.b))) 0 false) ∧
    (signedOf N s.b = 0 → Answers i s (drawn s N 0) 0 true)

/-- Word `w` is an N-bit leading-zero count (42_zero_count.md R94 to R96). -/
def IsClz (w : Opcode) (i : Instr) (N : Nat) : Prop :=
  decode w = .ok i ∧ ∀ s : State,
    (s.a.toNat % 2 ^ N ≠ 0 →
      Answers i s (BitVec.ofNat 128 (N - 1 - Nat.log2 (s.a.toNat % 2 ^ N))) 0 false) ∧
    (s.a.toNat % 2 ^ N = 0 → Answers i s (drawn s 32 0) 0 true)

/-- Word `w` is an N-bit trailing-zero count (42_zero_count.md R97 to R99): the largest k with 2^k dividing the operand. -/
def IsCtz (w : Opcode) (i : Instr) (N : Nat) : Prop :=
  decode w = .ok i ∧ ∀ s : State,
    (s.a.toNat % 2 ^ N ≠ 0 →
      ∃ k, k < N ∧ 2 ^ k ∣ s.a.toNat % 2 ^ N ∧ ¬ 2 ^ (k + 1) ∣ s.a.toNat % 2 ^ N ∧
        Answers i s (BitVec.ofNat 128 k) 0 false) ∧
    (s.a.toNat % 2 ^ N = 0 → Answers i s (drawn s 32 0) 0 true)

/-- The integer an operand of width N denotes, read signed or unsigned (44_int_to_float.md R113). -/
def integerOf (N : Nat) (signed : Bool) (p : Word) : Int := if signed then signedOf N p else ((p.toNat % 2 ^ N : Nat) : Int)

/-- Word `w` converts an N-bit integer to format F (44_int_to_float.md R113, R116 to R139): the integer's value, rounded once. -/
def IsIntToFloat (w : Opcode) (i : Instr) (N : Nat) (signed : Bool) (F : FloatFormat) : Prop :=
  decode w = .ok i ∧ ∀ s : State,
    Answers i s (roundRational F (decide (integerOf N signed s.a < 0)) ((integerOf N signed s.a).natAbs : ℚ)) 0 false

/-- The fraction of a NaN carried from S to D where NAN_PAYLOAD_EXACT holds (43_float_common.md R106). -/
def carriedFraction (S D : FloatFormat) (f : Nat) : Nat :=
  (if D.significandBits < S.significandBits then f >>> (S.significandBits - D.significandBits)
    else f <<< (D.significandBits - S.significandBits)) ||| 2 ^ (D.significandBits - 1)

/-- Word `w` converts from format S to format D (45_float_convert.md R140, R144 to R155). -/
def IsFloatConvert (w : Opcode) (i : Instr) (S D : FloatFormat) : Prop :=
  decode w = .ok i ∧ ∀ s : State,
    (classify S s.a = .nonCanonical → Answers i s (drawn s D.totalBits 0) 0 true) ∧
    (classify S s.a = .quietNaN ∨ classify S s.a = .signallingNaN →
      ∃ r, Answers i s r 0 false ∧ classify D r = .quietNaN ∧ floatSign D r = floatSign S s.a ∧
        r.toNat < 2 ^ D.totalBits ∧
        (Config.nanPayloadExact = true → fractionField D r = carriedFraction S D (fractionField S s.a))) ∧
    (classify S s.a = .infinity → Answers i s (floatInfinity D (floatSign S s.a)) 0 false) ∧
    (classify S s.a = .zero → Answers i s (floatZero D (floatSign S s.a)) 0 false) ∧
    (classify S s.a = .subnormal ∨ classify S s.a = .normal →
      Answers i s (roundRational D (floatSign S s.a) |floatValue S s.a|) 0 false)

/-- The sign of a product (46_float_multiply.md R156). -/
def productSign (F : FloatFormat) (a b : Word) : Bool := Bool.xor (floatSign F a) (floatSign F b)

/-- Word `w` multiplies in format F (46_float_multiply.md R156, R160 to R162). -/
def IsFloatMultiply (w : Opcode) (i : Instr) (F : FloatFormat) : Prop :=
  decode w = .ok i ∧ ∀ s : State,
    ((classify F s.a).isNaN = true →
      ∃ r, Answers i s r 0 false ∧ classify F r = .quietNaN ∧ floatSign F r = floatSign F s.a ∧ r.toNat < 2 ^ F.totalBits ∧
        (Config.nanPayloadExact = true → r.toNat = (s.a.toNat % 2 ^ F.totalBits) ||| 2 ^ (F.significandBits - 1))) ∧
    ((classify F s.a).isNaN = false → (classify F s.b).isNaN = true →
      ∃ r, Answers i s r 0 false ∧ classify F r = .quietNaN ∧ floatSign F r = floatSign F s.b ∧ r.toNat < 2 ^ F.totalBits ∧
        (Config.nanPayloadExact = true → r.toNat = (s.b.toNat % 2 ^ F.totalBits) ||| 2 ^ (F.significandBits - 1))) ∧
    ((classify F s.a = .infinity ∧ classify F s.b = .zero) ∨ (classify F s.a = .zero ∧ classify F s.b = .infinity) →
      ∃ r, Answers i s r 0 false ∧ classify F r = .quietNaN ∧ floatSign F r = false ∧ r.toNat < 2 ^ F.totalBits ∧
        (Config.nanPayloadExact = true → r = defaultNaN F)) ∧
    ((classify F s.a = .infinity ∧ (classify F s.b).isNaN = false ∧ classify F s.b ≠ .zero) ∨
     (classify F s.b = .infinity ∧ (classify F s.a).isNaN = false ∧ classify F s.a ≠ .zero) →
      Answers i s (floatInfinity F (productSign F s.a s.b)) 0 false) ∧
    ((classify F s.a = .zero ∧ (classify F s.b).isFinite = true) ∨
     (classify F s.b = .zero ∧ (classify F s.a).isFinite = true) →
      Answers i s (floatZero F (productSign F s.a s.b)) 0 false) ∧
    ((classify F s.a = .subnormal ∨ classify F s.a = .normal) → (classify F s.b = .subnormal ∨ classify F s.b = .normal) →
      Answers i s (roundRational F (productSign F s.a s.b) (|floatValue F s.a| * |floatValue F s.b|)) 0 false)

/-- The four formats (00_scope.md R6). -/
def allFormats : List FloatFormat := [F32, F64, F80, F128]

/-- The formats with a multiplier (46_float_multiply.md R160 to R162). -/
def multiplyFormats : List FloatFormat := [F32, F64, F128]

/-- The integer widths (00_scope.md R5). -/
def allWidths : List Nat := [32, 64, 128]

/-- The format a format code names (30_encoding.md R48). -/
def formatByCode (c : Nat) : FloatFormat := allFormats.getD c F32

/-- The width a width code names (30_encoding.md R47). -/
def widthByCode (c : Nat) : Nat := allWidths.getD c 32

/-- The family of an operation: its FAM field (30_encoding.md R45). -/
def familyOf (i : Instr) : Nat := (opWordOf i).fam.toNat

/-- The number of low port bits an operation reads of each operand (30_encoding.md R52, R53). -/
def operandBits (i : Instr) : Nat :=
  if familyOf i ≤ 3 then widthByCode (opWordOf i).src.toNat else (formatByCode (opWordOf i).src.toNat).totalBits

/-- The operation reads B: the divisions and the multiplications do (30_encoding.md R52, R53). -/
def readsB (i : Instr) : Bool := familyOf i == 1 || familyOf i == 5

/-- The format of a float result (30_encoding.md R49). -/
def resultFormat (i : Instr) : FloatFormat :=
  if familyOf i = 5 then formatByCode (opWordOf i).src.toNat else formatByCode (opWordOf i).dst.toNat

/-- The width of an operation's results (30_encoding.md R54; 42_zero_count.md §2). -/
def resultBits (i : Instr) : Nat :=
  if familyOf i = 1 then widthByCode (opWordOf i).src.toNat
  else if familyOf i = 2 then 32
  else (resultFormat i).totalBits

/-- The operation returns a remainder in R1 (10_state.md R19). -/
def hasTwoResults (i : Instr) : Bool := familyOf i == 1 && ((opWordOf i).kind == 0x0 || (opWordOf i).kind == 0x8)

/-- The precondition of an operation is broken by the latched operands (60_exceptions.md R164). -/
def BreaksPrecondition (i : Instr) (s : State) : Prop :=
  (familyOf i = 1 ∧ s.b.toNat % 2 ^ operandBits i = 0) ∨
  (familyOf i = 2 ∧ s.a.toNat % 2 ^ operandBits i = 0) ∨
  (familyOf i = 4 ∧ (opWordOf i).src = 2 ∧ classify F80 s.a = .nonCanonical)

/-- `s` with another request on the request port at this step (10_state.md R27). -/
def State.withRequestPort (s : State) (v : Bool) (op : Opcode) (a b : Word) : State :=
  { s with inputs := { s.input with reqValid := v, reqOp := op, reqA := a, reqB := b } :: s.inputs.tail }

/-- `s` with another value of RSP_READY at this step (10_state.md R27). -/
def State.withRspReady (s : State) (v : Bool) : State :=
  { s with inputs := { s.input with rspReady := v } :: s.inputs.tail }

end Sys2Proof.Machine

open Sys2Proof Sys2Proof.Machine

/-! ### Encoding -/

/-- One word of each family, written out bit by bit from FAM, KIND, SRC, DST (30_encoding.md §4), decodes to its operation. -/
def Obligations.WordsOfEachFamilyDecode : Prop :=
  decode 0b0001_0000_0001_0000 = .ok .udivmod64 ∧ decode 0b0001_1010_0010_0000 = .ok .smod128 ∧
  decode 0b0010_0001_0001_0000 = .ok .ctz64 ∧ decode 0b0011_1000_0010_0011 = .ok .cvtS128F128 ∧
  decode 0b0011_0000_0000_0010 = .ok .cvtU32F80 ∧ decode 0b0100_0000_0011_0001 = .ok .cvtF128F64 ∧
  decode 0b0101_0000_0011_0000 = .ok .fmulF128

/-- R50: decode is exact match with the opcode map; 63 words are legal; a request with any other word is executed by R166. -/
def Obligations.DecodeIsTheOpcodeMap : Prop :=
  (∀ (w : Opcode) (i : Instr), decode w = .ok i ↔ w = encode i) ∧
  (∃ legal : List Opcode, legal.Nodup ∧ legal.length = 63 ∧ ∀ w, w ∈ legal ↔ ∃ i, decode w = .ok i) ∧
  (∀ s : State, (∀ i, s.op ≠ encode i) → executeLatched s = raiseIllegal s)

/-- R49: a word is legal exactly when its family allows every one of its fields. -/
def Obligations.LegalWordsHaveLegalFields : Prop :=
  ∀ w : Opcode, (∃ i, decode w = .ok i) ↔ (unpack w).wellFormed = true

/-- R61 and R163: the word 0x0000 and the word of an F80 multiply are reserved; a request with either is answered with ILL. -/
def Obligations.ZeroWordAndF80MultiplyAreIllegal : Prop :=
  ∀ s : State, s.op = 0x0000 ∨ s.op = 0x5020 →
    ∃ t, executeLatched s = .next t ∧ Responds s t (drawn s 128 0) (drawn s 128 1) false true

/-! ### Steps -/

/-- A step in BUSY that waits no longer and is not aborted runs the operation the latched word decodes to, on the state with
this step's input used up (10_state.md R29). -/
def Obligations.StepRunsDecodedOperation : Prop :=
  ∀ (s : State) (i : Instr), s.phase = .busy → s.ReadsAllowed → s.input.rst = false →
    s.nextInputs.keepsWaiting s.input = false → s.input.abort = false → decode s.op = .ok i →
    step s = exec i s.nextInputs

/-- A word put up for the next step is decoded and run by it, whatever the state was (log 11). -/
def Obligations.FetchWordRunsNext : Prop :=
  ∀ (s : State) (nbits w : Nat) (i : Instr), decodeTableWord nbits w = some i →
    step (s.withFetchWord nbits w) =
      exec i { s with op := BitVec.ofNat 16 (w % 2 ^ nbits), phase := .busy, waited := 0 }

/-- R28: in IDLE with REQ_VALID = 1 the request is latched and the phase is BUSY, nothing else changing; in IDLE with
REQ_VALID = 0 nothing changes (10_state.md R18); outside IDLE the request port has no effect. -/
def Obligations.AcceptOnlyInIdle : Prop :=
  (∀ s : State, s.phase = .idle → s.ReadsAllowed → s.input.rst = false → s.input.reqValid = true →
    step s = .next { s with op := s.input.reqOp, a := s.input.reqA, b := s.input.reqB, phase := .busy, waited := 0,
                            inputs := s.inputs.tail }) ∧
  (∀ s : State, s.phase = .idle → s.ReadsAllowed → s.input.rst = false → s.input.reqValid = false →
    step s = .next { s with inputs := s.inputs.tail }) ∧
  (∀ (s : State) (v : Bool) (op : Opcode) (a b : Word), s.phase ≠ .idle →
    step (s.withRequestPort v op a b) = step s)

/-- R30: in DONE with RSP_READY = 1 the phase becomes IDLE; the result registers and STATUS change at no step but an execution and
a reset; a step in BUSY before the execution changes nothing of the unit (10_state.md R29; its place within LAT is log 5). -/
def Obligations.DeliverKeepsResults : Prop :=
  (∀ s : State, s.phase = .done → s.ReadsAllowed → s.input.rst = false → s.input.rspReady = true →
    step s = .next { s with phase := .idle, inputs := s.inputs.tail }) ∧
  (∀ s : State, s.phase = .busy → s.ReadsAllowed → s.input.rst = false → s.nextInputs.keepsWaiting s.input = true →
    step s = .next { s with waited := s.waited + 1, inputs := s.inputs.tail }) ∧
  (∀ s t : State, step s = .next t → s.input.rst = false →
    ¬ (s.phase = .busy ∧ s.nextInputs.keepsWaiting s.input = false) →
    t.r0 = s.r0 ∧ t.r1 = s.r1 ∧ t.r0Written = s.r0Written ∧ t.r1Written = s.r1Written ∧ t.status = s.status)

/-- A presented response is held until the host takes it or resets the unit (10_state.md §4). -/
def Obligations.DoneWaitsForReady : Prop :=
  ∀ s : State, s.phase = .done → s.ReadsAllowed → s.input.rst = false → s.input.rspReady = false →
    step s = .next { s with inputs := s.inputs.tail }

/-- R29 and R187: a request in flight, not reset, aborted or wrongly read, is executed within its LAT steps of the accept, and
its response does not depend on how long it took. The bound and the steps waited are held as log 5 says. -/
def Obligations.ResponseWithinLat : Prop :=
  ∀ s : State, s.phase = .busy → s.waited < Config.lat s.op →
    (∀ i ∈ s.inputs, i.rst = false ∧ i.abort = false ∧ i.readR0 = false ∧ i.readR1 = false) →
    ∃ n t u, 0 < n ∧ s.waited + n ≤ Config.lat s.op ∧
      Host.Core.run Sys2Proof.core n s = .next t ∧ executeLatched s = .next u ∧
      t.phase = .done ∧ t.r0 = u.r0 ∧ t.r1 = u.r1 ∧ t.status = u.status

/-- R166 and R171: a reserved word gives two 128-bit draws, ILL and ILLS set, PV clear, and a response, whatever A and B hold. -/
def Obligations.ReservedWordIsIllegal : Prop :=
  ∀ (s : State) (e : Reserved), decode s.op = .error e →
    ∃ t, executeLatched s = .next t ∧ Responds s t (drawn s 128 0) (drawn s 128 1) false true

/-- R179: a step with RST = 1 leaves the reset values, whatever the phase and the ports; nothing else clears PVS, ILLS or HALT or
leaves HALTED. -/
def Obligations.ResetStepFromAnyPhase : Prop :=
  (∀ s : State, s.ReadsAllowed → s.input.rst = true →
    ∃ t, step s = .next t ∧ t.phase = .idle ∧ t.status = 0x00 ∧ t.r0Written = false ∧ t.r1Written = false ∧
      t.inputs = s.inputs.tail) ∧
  (∀ (s : State) (v : Bool) (op : Opcode) (a b : Word), s.input.rst = true →
    step (s.withRequestPort v op a b) = step s ∧ step (s.withRspReady v) = step s) ∧
  (∀ s t : State, step s = .next t → s.input.rst = false →
    (s.pvs = true → t.pvs = true) ∧ (s.ills = true → t.ills = true) ∧ (s.halt = true → t.halt = true) ∧
    (s.phase = .halted → t.phase = .halted))

/-- R31 and R181: after reset the phase is IDLE, STATUS is 0, nothing is written, and a request may be accepted at the first step. -/
def Obligations.ResetStateIsReady : Prop :=
  State.reset.phase = .idle ∧ State.reset.status = 0x00 ∧ State.reset.r0Written = false ∧ State.reset.r1Written = false ∧
  State.reset.reqReady = true ∧ State.reset.rspValid = false ∧
  ∀ (i : StepInput) (l : List StepInput), i.rst = false → i.readR0 = false → i.readR1 = false → i.reqValid = true →
    ∃ t, step { State.reset with inputs := i :: l } = .next t ∧
      t.phase = .busy ∧ t.op = i.reqOp ∧ t.a = i.reqA ∧ t.b = i.reqB ∧ t.inputs = l

/-- A read of a result register is a fault while its mark is false and outside DONE, and gives the register otherwise
(10_state.md R32). Which of two faults is named, R0 before R1 and the mark before the phase, and that a step with RST = 1 judges
its reads too, are the model's choice (logs 8 and 17). -/
def Obligations.ResultReadsOnlyFromResponses : Prop :=
  (∀ s : State, s.input.readR0 = true → s.r0Written = false → step s = .fault .readUnwritten) ∧
  (∀ s : State, s.input.readR0 = true → s.r0Written = true → s.phase ≠ .done → step s = .fault .readOutsideDone) ∧
  (∀ s : State, s.input.readR0 = false → s.input.readR1 = true → s.r1Written = false → step s = .fault .readUnwritten) ∧
  (∀ s : State, s.input.readR0 = false → s.input.readR1 = true → s.r1Written = true → s.phase ≠ .done →
    step s = .fault .readOutsideDone) ∧
  (∀ s : State, s.phase = .done → s.r0Written = true → s.r1Written = true →
    s.rspR0 = .ok s.r0 ∧ s.rspR1 = .ok s.r1 ∧ ∃ t, step s = .next t)

/-- Only a read the spec forbids stops the model: no step is refused, and every step whose reads are allowed has a next state
(60_exceptions.md §1). -/
def Obligations.OnlyForbiddenReadsStop : Prop :=
  (∀ (s : State) (r : Refusal), step s ≠ .refused r) ∧
  (∀ s : State, s.ReadsAllowed → ∃ t, step s = .next t) ∧
  (∀ (s : State) (f : Fault), step s = .fault f → ¬ s.ReadsAllowed)

/-! ### The fatal abort -/

/-- The fatal outcome sets HALT and the phase HALTED and changes nothing else; in HALTED nothing is accepted or presented and
every step without reset changes nothing (60_exceptions.md R168). That the input bit `abort` takes it is the model's choice
(log 9). -/
def Obligations.FatalAbortHalts : Prop :=
  (∀ s : State, s.phase = .busy → s.ReadsAllowed → s.input.rst = false →
    s.nextInputs.keepsWaiting s.input = false → s.input.abort = true →
    ∃ t, step s = .next t ∧ t.phase = .halted ∧ t.halt = true ∧ t.pv = s.pv ∧ t.ill = s.ill ∧ t.pvs = s.pvs ∧
      t.ills = s.ills ∧ t.statusReserved = s.statusReserved ∧ t.r0 = s.r0 ∧ t.r1 = s.r1 ∧
      t.r0Written = s.r0Written ∧ t.r1Written = s.r1Written ∧ t.op = s.op ∧ t.a = s.a ∧ t.b = s.b ∧
      t.waited = s.waited ∧ t.drawCount = s.drawCount ∧ t.inputs = s.inputs.tail) ∧
  (∀ s : State, s.phase = .halted → s.reqReady = false ∧ s.rspValid = false) ∧
  (∀ s : State, s.phase = .halted → s.ReadsAllowed → s.input.rst = false →
    step s = .next { s with inputs := s.inputs.tail })

/-- R169: every operation and every reserved word gives a response for every A and B, so HALTED is entered only by the injected
fault from outside (the input bit `abort`, log 9). -/
def Obligations.NoExecutionHalts : Prop :=
  (∀ s : State, ∃ t, executeLatched s = .next t ∧ t.phase = .done) ∧
  (∀ s t : State, step s = .next t → t.phase = .halted → s.phase ≠ .halted →
    s.phase = .busy ∧ s.input.rst = false ∧ s.input.abort = true)

/-! ### STATUS -/

/-- R164: an execution sets PV exactly when a precondition of the table is broken. -/
def Obligations.PvExactlyOnBrokenPreconditions : Prop :=
  (∀ (i : Instr) (s t : State), exec i s = .next t → (t.pv = true ↔ BreaksPrecondition i s)) ∧
  (∀ (s t : State) (e : Reserved), decode s.op = .error e → executeLatched s = .next t → t.pv = false)

/-- R165 and R167: PVS and ILLS are set with PV and ILL and cleared by no execution and no other step without reset; an execution
that is not Illegal clears ILL. -/
def Obligations.StickyBitsFollow : Prop :=
  (∀ s t : State, executeLatched s = .next t →
    t.pvs = (s.pvs || t.pv) ∧ t.ills = (s.ills || t.ill) ∧ (t.ill = true ↔ ∃ e, decode s.op = .error e)) ∧
  (∀ s t : State, step s = .next t → s.input.rst = false →
    (s.pvs = true → t.pvs = true) ∧ (s.ills = true → t.ills = true))

/-- A reserved word is Illegal with PV = 0 whatever A and B hold, PV and ILL are never both 1 in a response, and the fatal abort
takes precedence over the response (60_exceptions.md R172). That the input bit `abort` takes it is the model's choice (log 9). -/
def Obligations.DecodeHasPriority : Prop :=
  (∀ (s : State) (e : Reserved) (a b : Word), decode s.op = .error e →
    ∃ t, executeLatched { s with a := a, b := b } = .next t ∧ t.ill = true ∧ t.pv = false) ∧
  (∀ s t : State, executeLatched s = .next t → ¬ (t.pv = true ∧ t.ill = true)) ∧
  (∀ s t : State, s.phase = .busy → s.input.rst = false → s.nextInputs.keepsWaiting s.input = false →
    s.input.abort = true → step s = .next t → t.phase = .halted)

/-! ### Invariants -/

/-- The reset state satisfies the invariant. -/
def Obligations.InvAtReset : Prop := State.reset.Inv

/-- Every step keeps the invariant (10_state.md R20, R29, R33; 60_exceptions.md R165, R167, R168, R172). -/
def Obligations.InvKeptByEveryStep : Prop := ∀ s t : State, s.Inv → step s = .next t → t.Inv

/-! ### Purity -/

/-- R26: a response depends on its own request alone: two states with the same latches, at the same place of the free input, give
the same response whatever earlier requests left in them. -/
def Obligations.ResponseDependsOnItsRequest : Prop :=
  ∀ s u t v : State, s.op = u.op → s.a = u.a → s.b = u.b → s.drawCount = u.drawCount →
    executeLatched s = .next t → executeLatched u = .next v →
    t.r0 = v.r0 ∧ t.r1 = v.r1 ∧ t.pv = v.pv ∧ t.ill = v.ill

/-- R52 and R53: the port bits above an operand, and the whole of B for a one-operand operation, change neither result nor
status. -/
def Obligations.HigherPortBitsIgnored : Prop :=
  ∀ (i : Instr) (s t u : State) (a b : Word),
    s.a.toNat % 2 ^ operandBits i = a.toNat % 2 ^ operandBits i →
    (readsB i = true → s.b.toNat % 2 ^ operandBits i = b.toNat % 2 ^ operandBits i) →
    exec i s = .next t → exec i { s with a := a, b := b } = .next u →
    t.r0 = u.r0 ∧ t.r1 = u.r1 ∧ t.status = u.status

/-- R54: every result fits its width, the port bits above it being 0, and an operation with one result writes R1 with 0. -/
def Obligations.ResultsFitTheirWidth : Prop :=
  ∀ (i : Instr) (s t : State), exec i s = .next t →
    t.r0.toNat < 2 ^ resultBits i ∧ t.r1.toNat < 2 ^ resultBits i ∧ (hasTwoResults i = false → t.r1 = 0)

/-! ### Unsigned division -/

/-- R69, R70, R71. -/
def Obligations.UnsignedDivideWithRemainder : Prop :=
  IsUDivMod 0x1000 .udivmod32 32 ∧ IsUDivMod 0x1010 .udivmod64 64 ∧ IsUDivMod 0x1020 .udivmod128 128

/-- R72, R73, R74. -/
def Obligations.UnsignedQuotient : Prop :=
  IsUDiv 0x1100 .udiv32 32 ∧ IsUDiv 0x1110 .udiv64 64 ∧ IsUDiv 0x1120 .udiv128 128

/-- R75, R76, R77. -/
def Obligations.UnsignedRemainder : Prop :=
  IsUMod 0x1200 .umod32 32 ∧ IsUMod 0x1210 .umod64 64 ∧ IsUMod 0x1220 .umod128 128

/-- R66: the engine's algorithm (R65) gives quotient and remainder for every dividend and nonzero divisor, at every width. -/
def Obligations.RestoringDivisionIsCorrect : Prop :=
  ∀ (N : Nat) (n d : BitVec N), d ≠ 0 →
    (restoringDivide n d).1.toNat = n.toNat / d.toNat ∧ (restoringDivide n d).2.toNat = n.toNat % d.toNat ∧
    restoringDivide n d = divide n d

/-- The engine's loop never runs more than N - 1 times, and not at all when an early exit is taken (40_unsigned_division.md §1). -/
def Obligations.DivideLoopIsBounded : Prop :=
  ∀ (N : Nat) (n d : BitVec N), 0 < N →
    divideLoopCount n d ≤ N - 1 ∧
    (divideLoopCount n d = 0 ↔ (lz d : Int) - lz n < 0 ∨ (lz d : Int) - lz n ≥ (N : Int) - 1)

/-! ### Signed division -/

/-- R82, R83, R84. -/
def Obligations.SignedDivideWithRemainder : Prop :=
  IsSDivMod 0x1800 .sdivmod32 32 ∧ IsSDivMod 0x1810 .sdivmod64 64 ∧ IsSDivMod 0x1820 .sdivmod128 128

/-- R85, R86, R87. -/
def Obligations.SignedQuotient : Prop :=
  IsSDiv 0x1900 .sdiv32 32 ∧ IsSDiv 0x1910 .sdiv64 64 ∧ IsSDiv 0x1920 .sdiv128 128

/-- R88, R89, R90. -/
def Obligations.SignedRemainder : Prop :=
  IsSMod 0x1A00 .smod32 32 ∧ IsSMod 0x1A10 .smod64 64 ∧ IsSMod 0x1A20 .smod128 128

/-- R80: outside the overflow case the quotient truncates toward zero, the remainder completes the identity, has the sign of the
dividend or is zero, and is below the divisor in magnitude. -/
def Obligations.SignedAdapterTruncates : Prop :=
  ∀ N ∈ allWidths, ∀ a b : BitVec N, b ≠ 0 → ¬ (a = BitVec.intMin N ∧ b.toInt = -1) →
    (sdivide a b).1.toInt = a.toInt.tdiv b.toInt ∧
    (sdivide a b).2.toInt = a.toInt - (sdivide a b).1.toInt * b.toInt ∧
    ((sdivide a b).2.toInt = 0 ∨ ((sdivide a b).2.toInt < 0 ↔ a.toInt < 0)) ∧
    |(sdivide a b).2.toInt| < |b.toInt|

/-- R81: the overflowing quotient wraps to the least value with remainder 0 and PV = 0. -/
def Obligations.SignedOverflowWraps : Prop :=
  (∀ N ∈ allWidths, sdivide (BitVec.intMin N) (-1) = (BitVec.intMin N, 0)) ∧
  (∀ s : State, s.a.setWidth 32 = BitVec.intMin 32 → s.b.setWidth 32 = BitVec.allOnes 32 →
    Answers .sdivmod32 s 0x80000000 0 false ∧ Answers .sdiv32 s 0x80000000 0 false ∧ Answers .smod32 s 0 0 false) ∧
  (∀ s : State, s.a.setWidth 64 = BitVec.intMin 64 → s.b.setWidth 64 = BitVec.allOnes 64 →
    Answers .sdivmod64 s 0x8000000000000000 0 false ∧ Answers .sdiv64 s 0x8000000000000000 0 false ∧
    Answers .smod64 s 0 0 false) ∧
  (∀ s : State, s.a = BitVec.intMin 128 → s.b = BitVec.allOnes 128 →
    Answers .sdivmod128 s 0x80000000000000000000000000000000 0 false ∧
    Answers .sdiv128 s 0x80000000000000000000000000000000 0 false ∧ Answers .smod128 s 0 0 false)

/-! ### Zero counts -/

/-- R94, R95, R96. -/
def Obligations.LeadingZeroCounts : Prop :=
  IsClz 0x2000 .clz32 32 ∧ IsClz 0x2010 .clz64 64 ∧ IsClz 0x2020 .clz128 128

/-- R97, R98, R99. -/
def Obligations.TrailingZeroCounts : Prop :=
  IsCtz 0x2100 .ctz32 32 ∧ IsCtz 0x2110 .ctz64 64 ∧ IsCtz 0x2120 .ctz128 128

/-- The compositions select by the half-word, and an unspecified base count of 0 never reaches the result of a nonzero operand
(42_zero_count.md §1). -/
def Obligations.BaseCountsOfZeroAreMasked : Prop :=
  ∀ u v : CountOfZero,
    (∀ x : BitVec 64, x ≠ 0 → clz64 u x = clz64 v x ∧ ctz64 u x = ctz64 v x ∧
      (x.extractLsb' 32 32 ≠ 0 → clz64 u x = clz32 (v 0) (x.extractLsb' 32 32)) ∧
      (x.extractLsb' 32 32 = 0 → clz64 u x = 32 + clz32 (v 0) (x.extractLsb' 0 32)) ∧
      (x.extractLsb' 0 32 ≠ 0 → ctz64 u x = ctz32 (v 0) (x.extractLsb' 0 32)) ∧
      (x.extractLsb' 0 32 = 0 → ctz64 u x = 32 + ctz32 (v 0) (x.extractLsb' 32 32))) ∧
    (∀ x : BitVec 128, x ≠ 0 → clz128 u x = clz128 v x ∧ ctz128 u x = ctz128 v x ∧
      (x.extractLsb' 64 64 ≠ 0 → clz128 u x = clz64 v (x.extractLsb' 64 64)) ∧
      (x.extractLsb' 64 64 = 0 → clz128 u x = 64 + clz64 v (x.extractLsb' 0 64)) ∧
      (x.extractLsb' 0 64 ≠ 0 → ctz128 u x = ctz64 v (x.extractLsb' 0 64)) ∧
      (x.extractLsb' 0 64 = 0 → ctz128 u x = 64 + ctz64 v (x.extractLsb' 64 64)))

/-! ### Float formats and rounding -/

/-- The four format records meet the source's invariant and have the stated constants (00_scope.md §3). -/
def Obligations.FormatRecords : Prop :=
  (∀ F ∈ allFormats, F.totalBits = 1 + F.exponentBits + F.significandBits + (if F.hasImplicitBit then 0 else 1)) ∧
  allFormats.map (fun F => (F.totalBits, F.exponentBits, F.significandBits, F.bias, F.emin, F.emax, F.hasImplicitBit)) =
    [(32, 8, 23, 127, -126, 127, true), (64, 11, 52, 1023, -1022, 1023, true),
     (80, 15, 63, 16383, -16382, 16383, false), (128, 15, 112, 16383, -16382, 16383, true)]

/-- R102: the special encodings of each format. -/
def Obligations.SpecialEncodings : Prop :=
  allFormats.map (fun F => (floatZero F false, floatZero F true, floatInfinity F false, defaultNaN F, floatOne F)) =
    [(0x00000000, 0x80000000, 0x7F800000, 0x7FC00000, 0x3F800000),
     (0x0000000000000000, 0x8000000000000000, 0x7FF0000000000000, 0x7FF8000000000000, 0x3FF0000000000000),
     (0x0, 0x80000000000000000000, 0x7FFF8000000000000000, 0x7FFFC000000000000000, 0x3FFF8000000000000000),
     (0x0, 0x80000000000000000000000000000000, 0x7FFF0000000000000000000000000000,
      0x7FFF8000000000000000000000000000, 0x3FFF0000000000000000000000000000)] ∧
  ∀ F ∈ allFormats, ∀ s : Bool,
    classify F (floatZero F s) = .zero ∧ floatSign F (floatZero F s) = s ∧
    classify F (floatInfinity F s) = .infinity ∧ floatSign F (floatInfinity F s) = s ∧
    (floatInfinity F s).toNat < 2 ^ F.totalBits ∧
    classify F (defaultNaN F) = .quietNaN

/-- R103: the integer rounding the meanings use (log 14) is `round_F` of the exact rational. -/
def Obligations.RoundingIsExactRational : Prop :=
  ∀ F ∈ allFormats, ∀ (s : Bool) (x : Magnitude), roundFloat F s x = roundRational F s x.value

/-- R104: rounding to nearest even is the guard, round and sticky rule. -/
def Obligations.GuardRoundStickyAgrees : Prop :=
  ∀ c d : Nat, 1 ≤ d →
    roundShift c d = roundGuardRoundSticky c d ∧ roundShift c d = nearestEven ((c : ℚ) / 2 ^ d)

/-- The overflow and underflow thresholds of rounding (43_float_common.md §2), with p = T + 1. -/
def Obligations.RoundingThresholds : Prop :=
  ∀ F ∈ allFormats, ∀ (s : Bool) (x : ℚ), 0 ≤ x →
    (roundRational F s x = floatInfinity F s ↔
      (2 - (2 : ℚ) ^ (-((F.significandBits : Int) + 1))) * (2 : ℚ) ^ F.emax ≤ x) ∧
    (roundRational F s x ≠ floatInfinity F s → (classify F (roundRational F s x)).isFinite = true) ∧
    (roundRational F s x = floatZero F s ↔ x ≤ (2 : ℚ) ^ (F.emin - F.significandBits - 1)) ∧
    ((2 : ℚ) ^ F.emin * (1 - (2 : ℚ) ^ (-((F.significandBits : Int) + 1))) ≤ x → x < (2 : ℚ) ^ F.emin →
      roundRational F s x = encodeFloat F s 1 F.integerBit)

/-- R108: the quiet bit is the most significant fraction bit, and no float operation returns a signalling NaN. -/
def Obligations.NaNResultsAreQuiet : Prop :=
  allFormats.map (fun F => F.significandBits - 1) = [22, 51, 62, 111] ∧
  ∀ (i : Instr) (s t : State), 3 ≤ familyOf i → exec i s = .next t → t.pv = false →
    classify (resultFormat i) t.r0 ≠ .signallingNaN

/-- R110: every F80 result is canonical: J = 1 for Normal, Infinity and NaN, J = 0 for Zero and Subnormal. -/
def Obligations.F80ResultsAreCanonical : Prop :=
  ∀ (i : Instr) (s t : State), 3 ≤ familyOf i → resultFormat i = F80 → exec i s = .next t →
    (explicitBit F80 t.r0 = true ↔
      classify F80 t.r0 = .normal ∨ classify F80 t.r0 = .infinity ∨ (classify F80 t.r0).isNaN = true) ∧
    (explicitBit F80 t.r0 = false ↔ classify F80 t.r0 = .zero ∨ classify F80 t.r0 = .subnormal)

/-- R109 in this model: no float operation leaves a trace beside its value, inexact, overflowing or invalid as it may be: STATUS
changes in PV and ILL alone, both 0 unless an F80 operand is non-canonical (43_float_common.md §3). -/
def Obligations.FloatOperationsSetNoFlags : Prop :=
  ∀ (i : Instr) (s t : State), 3 ≤ familyOf i → exec i s = .next t →
    (¬ BreaksPrecondition i s → t.status = s.status &&& 0xFC) ∧
    (BreaksPrecondition i s → t.status = (s.status &&& 0xFC) ||| 0x05)

/-! ### Integer to float -/

/-- R116 to R127. -/
def Obligations.SignedIntToFloat : Prop :=
  IsIntToFloat 0x3800 .cvtS32F32 32 true F32 ∧ IsIntToFloat 0x3801 .cvtS32F64 32 true F64 ∧
  IsIntToFloat 0x3802 .cvtS32F80 32 true F80 ∧ IsIntToFloat 0x3803 .cvtS32F128 32 true F128 ∧
  IsIntToFloat 0x3810 .cvtS64F32 64 true F32 ∧ IsIntToFloat 0x3811 .cvtS64F64 64 true F64 ∧
  IsIntToFloat 0x3812 .cvtS64F80 64 true F80 ∧ IsIntToFloat 0x3813 .cvtS64F128 64 true F128 ∧
  IsIntToFloat 0x3820 .cvtS128F32 128 true F32 ∧ IsIntToFloat 0x3821 .cvtS128F64 128 true F64 ∧
  IsIntToFloat 0x3822 .cvtS128F80 128 true F80 ∧ IsIntToFloat 0x3823 .cvtS128F128 128 true F128

/-- R128 to R139. -/
def Obligations.UnsignedIntToFloat : Prop :=
  IsIntToFloat 0x3000 .cvtU32F32 32 false F32 ∧ IsIntToFloat 0x3001 .cvtU32F64 32 false F64 ∧
  IsIntToFloat 0x3002 .cvtU32F80 32 false F80 ∧ IsIntToFloat 0x3003 .cvtU32F128 32 false F128 ∧
  IsIntToFloat 0x3010 .cvtU64F32 64 false F32 ∧ IsIntToFloat 0x3011 .cvtU64F64 64 false F64 ∧
  IsIntToFloat 0x3012 .cvtU64F80 64 false F80 ∧ IsIntToFloat 0x3013 .cvtU64F128 64 false F128 ∧
  IsIntToFloat 0x3020 .cvtU128F32 128 false F32 ∧ IsIntToFloat 0x3021 .cvtU128F64 128 false F64 ∧
  IsIntToFloat 0x3022 .cvtU128F80 128 false F80 ∧ IsIntToFloat 0x3023 .cvtU128F128 128 false F128

/-- An integer whose significant bits number at most p converts exactly (44_int_to_float.md §1). -/
def Obligations.ShortIntegersConvertExactly : Prop :=
  ∀ N ∈ allWidths, ∀ F ∈ allFormats, ∀ (signed : Bool) (p : Word) (m k : Nat),
    (integerOf N signed p).natAbs = m * 2 ^ k → m < 2 ^ (F.significandBits + 1) →
    (classify F (integerToFloat N F signed (intOperand N p))).isFinite = true ∧
    floatValue F (integerToFloat N F signed (intOperand N p)) = ((integerOf N signed p : Int) : ℚ)

/-- Only CVT.U128.F32 overflows, from 2^128 - 2^103 on (44_int_to_float.md §1). -/
def Obligations.OnlyU128ToF32Overflows : Prop :=
  ∀ N ∈ allWidths, ∀ F ∈ allFormats, ∀ (signed : Bool) (x : BitVec N),
    classify F (integerToFloat N F signed x) = .infinity ↔
      (N = 128 ∧ F = F32 ∧ signed = false ∧ 2 ^ 128 - 2 ^ 103 ≤ x.toNat)

/-! ### Float to float -/

/-- R144 to R149. -/
def Obligations.FloatExtensions : Prop :=
  IsFloatConvert 0x4001 .cvtF32F64 F32 F64 ∧ IsFloatConvert 0x4002 .cvtF32F80 F32 F80 ∧
  IsFloatConvert 0x4003 .cvtF32F128 F32 F128 ∧ IsFloatConvert 0x4012 .cvtF64F80 F64 F80 ∧
  IsFloatConvert 0x4013 .cvtF64F128 F64 F128 ∧ IsFloatConvert 0x4023 .cvtF80F128 F80 F128

/-- R150 to R155. -/
def Obligations.FloatTruncations : Prop :=
  IsFloatConvert 0x4010 .cvtF64F32 F64 F32 ∧ IsFloatConvert 0x4020 .cvtF80F32 F80 F32 ∧
  IsFloatConvert 0x4021 .cvtF80F64 F80 F64 ∧ IsFloatConvert 0x4030 .cvtF128F32 F128 F32 ∧
  IsFloatConvert 0x4031 .cvtF128F64 F128 F64 ∧ IsFloatConvert 0x4032 .cvtF128F80 F128 F80

/-- R141: an extension keeps the value of every finite operand; a subnormal becomes Normal except from F80 to F128. -/
def Obligations.ExtensionsAreExact : Prop :=
  ∀ P ∈ [(F32, F64), (F32, F80), (F32, F128), (F64, F80), (F64, F128), (F80, F128)],
    ∀ (e : Bool) (d : Draw) (v : Word), (classify P.1 v).isFinite = true →
      (classify P.2 (floatConvert P.1 P.2 e d v).r0).isFinite = true ∧
      floatValue P.2 (floatConvert P.1 P.2 e d v).r0 = floatValue P.1 v ∧
      floatSign P.2 (floatConvert P.1 P.2 e d v).r0 = floatSign P.1 v ∧
      (classify P.1 v = .subnormal →
        classify P.2 (floatConvert P.1 P.2 e d v).r0 = if P = (F80, F128) then .subnormal else .normal)

/-! ### Multiplication -/

/-- R160, R161, R162. -/
def Obligations.FloatMultiplications : Prop :=
  IsFloatMultiply 0x5000 .fmulF32 F32 ∧ IsFloatMultiply 0x5010 .fmulF64 F64 ∧ IsFloatMultiply 0x5030 .fmulF128 F128

/-- Multiplication commutes bit for bit when neither operand is a NaN (46_float_multiply.md §1). -/
def Obligations.MultiplyCommutes : Prop :=
  ∀ F ∈ multiplyFormats, ∀ (e : Bool) (d : Draw) (a b : Word),
    (classify F a).isNaN = false → (classify F b).isNaN = false → multiplyFloat F e d a b = multiplyFloat F e d b a

/-- A finite operand times 1.0 is the operand, bit for bit, its zero's sign included (46_float_multiply.md §1). -/
def Obligations.MultiplyByOne : Prop :=
  ∀ F ∈ multiplyFormats, ∀ (e : Bool) (d : Draw) (x : Word), (classify F x).isFinite = true →
    multiplyFloat F e d x (floatOne F) = floatOperand F.totalBits x

/-- Infinity times zero is a NaN for every pair of signs; infinity times a finite nonzero number is infinity with the XOR of the
signs (46_float_multiply.md §1). -/
def Obligations.InfinityProducts : Prop :=
  ∀ F ∈ multiplyFormats, ∀ (e : Bool) (d : Draw) (s t : Bool),
    classify F (multiplyFloat F e d (floatInfinity F s) (floatZero F t)) = .quietNaN ∧
    classify F (multiplyFloat F e d (floatZero F t) (floatInfinity F s)) = .quietNaN ∧
    ∀ y : Word, classify F y = .subnormal ∨ classify F y = .normal → floatSign F y = t →
      multiplyFloat F e d (floatInfinity F s) y = floatInfinity F (Bool.xor s t)
end

