-- ==== Sys2Proof/Laws/Division.lean ====
section
/-! SUPPORT. The Division Engine, the sign masks and the negate-if trick as numbers (40_unsigned_division.md R63, R66;
41_signed_division.md R78, R79). -/

namespace Sys2Proof.Machine

/-! ### The engine -/

@[simp] theorem divide_fst_toNat {N : Nat} (n d : BitVec N) : (divide n d).1.toNat = n.toNat / d.toNat := by
  simp only [divide, BitVec.toNat_ofNat]
  exact Nat.mod_eq_of_lt (lt_of_le_of_lt (Nat.div_le_self _ _) n.isLt)

@[simp] theorem divide_snd_toNat {N : Nat} (n d : BitVec N) : (divide n d).2.toNat = n.toNat % d.toNat := by
  simp only [divide, BitVec.toNat_ofNat]
  exact Nat.mod_eq_of_lt (lt_of_le_of_lt (Nat.mod_le _ _) n.isLt)

theorem lz_zero {N : Nat} : lz (0 : BitVec N) = N := by simp [lz]

/-- A nonzero value lies in the binade its leading-zero count names (40_unsigned_division.md R63). -/
theorem lz_bounds {N : Nat} (x : BitVec N) (h : x ≠ 0) :
    lz x < N ∧ 2 ^ (N - 1 - lz x) ≤ x.toNat ∧ x.toNat < 2 ^ (N - lz x) := by
  have hx : x.toNat ≠ 0 := fun hz => h (by rw [← BitVec.toNat_inj]; simpa using hz)
  have hlog : Nat.log2 x.toNat < N := (Nat.log2_lt hx).2 x.isLt
  have hz : lz x = N - 1 - Nat.log2 x.toNat := by rw [lz, if_neg h]
  refine ⟨by omega, ?_, ?_⟩
  · rw [show N - 1 - lz x = Nat.log2 x.toNat by omega]; exact Nat.log2_self_le hx
  · rw [show N - lz x = Nat.log2 x.toNat + 1 by omega]; exact Nat.lt_log2_self

/-! ### Signs -/

theorem smask_eq {N : Nat} (x : BitVec N) : smask x = if x.msb then BitVec.allOnes N else 0 := by
  apply BitVec.eq_of_getLsbD_eq
  intro i hi
  rw [smask, BitVec.getLsbD_sshiftRight]
  by_cases h0 : i = 0
  · subst h0
    have hlt : N - 1 + 0 < N := by omega
    cases hm : x.msb <;> simp_all [BitVec.msb_eq_getLsbD_last]
    omega
  · have h1 : ¬ (N - 1 + i < N) := by omega
    cases hm : x.msb <;> simp [h1, hi]

@[simp] theorem negif_zero {N : Nat} (x : BitVec N) : negif x 0 = x := by simp [negif]

@[simp] theorem negif_allOnes {N : Nat} (x : BitVec N) : negif x (BitVec.allOnes N) = -x := by
  have h1 : 1#N + BitVec.allOnes N = 0#N := by
    have h := BitVec.neg_eq_not_add (0#N)
    simp only [BitVec.not_zero, BitVec.neg_zero] at h
    rw [BitVec.add_comm]; exact h.symm
  rw [negif, BitVec.xor_allOnes, BitVec.neg_eq_not_add, sub_eq_iff_eq_add, BitVec.add_assoc, h1, BitVec.add_zero]

/-- The magnitude the adapter and the converter feed on is exact, for the least value too (41_signed_division.md R79). -/
theorem negif_smask_toNat {N : Nat} (x : BitVec N) : (negif x (smask x)).toNat = x.toInt.natAbs := by
  rw [smask_eq]
  cases hm : x.msb
  · simp only [Bool.false_eq_true, if_false, negif_zero, BitVec.toInt_eq_msb_cond, hm]
    omega
  · have hx : x.toNat < 2 ^ N := x.isLt
    have hpos : 0 < x.toNat := by
      rcases Nat.eq_zero_or_pos x.toNat with h0 | h0
      · rw [BitVec.msb_eq_decide] at hm; simp [h0] at hm
      · exact h0
    simp only [if_true, negif_allOnes, BitVec.toInt_eq_msb_cond, hm, BitVec.toNat_neg]
    rw [Nat.mod_eq_of_lt (by omega)]
    push_cast
    have : ((2 ^ N : Nat) : Int) = 2 ^ N := by push_cast; rfl
    omega

theorem integerMagnitude_unsigned {N : Nat} (x : BitVec N) : (integerMagnitude false x).toNat = x.toNat := rfl

theorem integerMagnitude_signed {N : Nat} (x : BitVec N) : (integerMagnitude true x).toNat = x.toInt.natAbs := by
  simp only [integerMagnitude, if_true]; exact negif_smask_toNat x

end Sys2Proof.Machine
end

