-- ==== Sys2Proof/Laws/State.lean ====
section
/-! SUPPORT. Every field of the state after every named update of it. -/

namespace Sys2Proof.Machine

/-! ### The input of a step is used up -/

@[simp] theorem State.nextInputs_op (s : State) : s.nextInputs.op = s.op := rfl
@[simp] theorem State.nextInputs_a (s : State) : s.nextInputs.a = s.a := rfl
@[simp] theorem State.nextInputs_b (s : State) : s.nextInputs.b = s.b := rfl
@[simp] theorem State.nextInputs_r0 (s : State) : s.nextInputs.r0 = s.r0 := rfl
@[simp] theorem State.nextInputs_r1 (s : State) : s.nextInputs.r1 = s.r1 := rfl
@[simp] theorem State.nextInputs_r0Written (s : State) : s.nextInputs.r0Written = s.r0Written := rfl
@[simp] theorem State.nextInputs_r1Written (s : State) : s.nextInputs.r1Written = s.r1Written := rfl
@[simp] theorem State.nextInputs_status (s : State) : s.nextInputs.status = s.status := rfl
@[simp] theorem State.nextInputs_phase (s : State) : s.nextInputs.phase = s.phase := rfl
@[simp] theorem State.nextInputs_waited (s : State) : s.nextInputs.waited = s.waited := rfl
@[simp] theorem State.nextInputs_drawCount (s : State) : s.nextInputs.drawCount = s.drawCount := rfl
@[simp] theorem State.nextInputs_inputs (s : State) : s.nextInputs.inputs = s.inputs.tail := rfl

/-! ### Accept (10_state.md R28) -/

@[simp] theorem State.accept_op (s : State) (i : StepInput) : (s.accept i).op = i.reqOp := rfl
@[simp] theorem State.accept_a (s : State) (i : StepInput) : (s.accept i).a = i.reqA := rfl
@[simp] theorem State.accept_b (s : State) (i : StepInput) : (s.accept i).b = i.reqB := rfl
@[simp] theorem State.accept_r0 (s : State) (i : StepInput) : (s.accept i).r0 = s.r0 := rfl
@[simp] theorem State.accept_r1 (s : State) (i : StepInput) : (s.accept i).r1 = s.r1 := rfl
@[simp] theorem State.accept_r0Written (s : State) (i : StepInput) : (s.accept i).r0Written = s.r0Written := rfl
@[simp] theorem State.accept_r1Written (s : State) (i : StepInput) : (s.accept i).r1Written = s.r1Written := rfl
@[simp] theorem State.accept_status (s : State) (i : StepInput) : (s.accept i).status = s.status := rfl
@[simp] theorem State.accept_phase (s : State) (i : StepInput) : (s.accept i).phase = .busy := rfl
@[simp] theorem State.accept_waited (s : State) (i : StepInput) : (s.accept i).waited = 0 := rfl
@[simp] theorem State.accept_drawCount (s : State) (i : StepInput) : (s.accept i).drawCount = s.drawCount := rfl
@[simp] theorem State.accept_inputs (s : State) (i : StepInput) : (s.accept i).inputs = s.inputs := rfl

/-! ### A waiting step (10_state.md R29) -/

@[simp] theorem State.wait_op (s : State) : s.wait.op = s.op := rfl
@[simp] theorem State.wait_a (s : State) : s.wait.a = s.a := rfl
@[simp] theorem State.wait_b (s : State) : s.wait.b = s.b := rfl
@[simp] theorem State.wait_r0 (s : State) : s.wait.r0 = s.r0 := rfl
@[simp] theorem State.wait_r1 (s : State) : s.wait.r1 = s.r1 := rfl
@[simp] theorem State.wait_r0Written (s : State) : s.wait.r0Written = s.r0Written := rfl
@[simp] theorem State.wait_r1Written (s : State) : s.wait.r1Written = s.r1Written := rfl
@[simp] theorem State.wait_status (s : State) : s.wait.status = s.status := rfl
@[simp] theorem State.wait_phase (s : State) : s.wait.phase = s.phase := rfl
@[simp] theorem State.wait_waited (s : State) : s.wait.waited = s.waited + 1 := rfl
@[simp] theorem State.wait_drawCount (s : State) : s.wait.drawCount = s.drawCount := rfl
@[simp] theorem State.wait_inputs (s : State) : s.wait.inputs = s.inputs := rfl

/-! ### A response (10_state.md R29 (a)) -/

@[simp] theorem State.completed_op (s : State) (x : Response) : (s.completed x).op = s.op := rfl
@[simp] theorem State.completed_a (s : State) (x : Response) : (s.completed x).a = s.a := rfl
@[simp] theorem State.completed_b (s : State) (x : Response) : (s.completed x).b = s.b := rfl
@[simp] theorem State.completed_r0 (s : State) (x : Response) : (s.completed x).r0 = x.r0 := rfl
@[simp] theorem State.completed_r1 (s : State) (x : Response) : (s.completed x).r1 = x.r1 := rfl
@[simp] theorem State.completed_r0Written (s : State) (x : Response) : (s.completed x).r0Written = true := rfl
@[simp] theorem State.completed_r1Written (s : State) (x : Response) : (s.completed x).r1Written = true := rfl
@[simp] theorem State.completed_status (s : State) (x : Response) : (s.completed x).status = statusAfter s.status x.pv x.ill := rfl
@[simp] theorem State.completed_phase (s : State) (x : Response) : (s.completed x).phase = .done := rfl
@[simp] theorem State.completed_waited (s : State) (x : Response) : (s.completed x).waited = s.waited := rfl
@[simp] theorem State.completed_drawCount (s : State) (x : Response) : (s.completed x).drawCount = s.drawCount + drawsPerExecute := rfl
@[simp] theorem State.completed_inputs (s : State) (x : Response) : (s.completed x).inputs = s.inputs := rfl

/-! ### The fatal abort (60_exceptions.md R168) -/

@[simp] theorem State.aborted_op (s : State) : s.aborted.op = s.op := rfl
@[simp] theorem State.aborted_a (s : State) : s.aborted.a = s.a := rfl
@[simp] theorem State.aborted_b (s : State) : s.aborted.b = s.b := rfl
@[simp] theorem State.aborted_r0 (s : State) : s.aborted.r0 = s.r0 := rfl
@[simp] theorem State.aborted_r1 (s : State) : s.aborted.r1 = s.r1 := rfl
@[simp] theorem State.aborted_r0Written (s : State) : s.aborted.r0Written = s.r0Written := rfl
@[simp] theorem State.aborted_r1Written (s : State) : s.aborted.r1Written = s.r1Written := rfl
@[simp] theorem State.aborted_status (s : State) : s.aborted.status = statusHalted s.status := rfl
@[simp] theorem State.aborted_phase (s : State) : s.aborted.phase = .halted := rfl
@[simp] theorem State.aborted_waited (s : State) : s.aborted.waited = s.waited := rfl
@[simp] theorem State.aborted_drawCount (s : State) : s.aborted.drawCount = s.drawCount := rfl
@[simp] theorem State.aborted_inputs (s : State) : s.aborted.inputs = s.inputs := rfl

/-! ### Deliver (10_state.md R30) -/

@[simp] theorem State.deliver_op (s : State) : s.deliver.op = s.op := rfl
@[simp] theorem State.deliver_a (s : State) : s.deliver.a = s.a := rfl
@[simp] theorem State.deliver_b (s : State) : s.deliver.b = s.b := rfl
@[simp] theorem State.deliver_r0 (s : State) : s.deliver.r0 = s.r0 := rfl
@[simp] theorem State.deliver_r1 (s : State) : s.deliver.r1 = s.r1 := rfl
@[simp] theorem State.deliver_r0Written (s : State) : s.deliver.r0Written = s.r0Written := rfl
@[simp] theorem State.deliver_r1Written (s : State) : s.deliver.r1Written = s.r1Written := rfl
@[simp] theorem State.deliver_status (s : State) : s.deliver.status = s.status := rfl
@[simp] theorem State.deliver_phase (s : State) : s.deliver.phase = .idle := rfl
@[simp] theorem State.deliver_waited (s : State) : s.deliver.waited = s.waited := rfl
@[simp] theorem State.deliver_drawCount (s : State) : s.deliver.drawCount = s.drawCount := rfl
@[simp] theorem State.deliver_inputs (s : State) : s.deliver.inputs = s.inputs := rfl

/-! ### Reset (70_reset_and_hazards.md R179) -/

@[simp] theorem State.resetStep_op (s : State) : s.resetStep.op = s.draws 16 0 := rfl
@[simp] theorem State.resetStep_a (s : State) : s.resetStep.a = s.draws 128 1 := rfl
@[simp] theorem State.resetStep_b (s : State) : s.resetStep.b = s.draws 128 2 := rfl
@[simp] theorem State.resetStep_r0 (s : State) : s.resetStep.r0 = s.draws 128 3 := rfl
@[simp] theorem State.resetStep_r1 (s : State) : s.resetStep.r1 = s.draws 128 4 := rfl
@[simp] theorem State.resetStep_r0Written (s : State) : s.resetStep.r0Written = false := rfl
@[simp] theorem State.resetStep_r1Written (s : State) : s.resetStep.r1Written = false := rfl
@[simp] theorem State.resetStep_status (s : State) : s.resetStep.status = statusReset := rfl
@[simp] theorem State.resetStep_phase (s : State) : s.resetStep.phase = .idle := rfl
@[simp] theorem State.resetStep_waited (s : State) : s.resetStep.waited = 0 := rfl
@[simp] theorem State.resetStep_drawCount (s : State) : s.resetStep.drawCount = s.drawCount + drawsPerReset := rfl
@[simp] theorem State.resetStep_inputs (s : State) : s.resetStep.inputs = s.inputs := rfl

/-! ### A word latched for the next step -/

@[simp] theorem State.withFetchWord_op (s : State) (nbits w : Nat) : (s.withFetchWord nbits w).op = tableWord nbits w := rfl
@[simp] theorem State.withFetchWord_a (s : State) (nbits w : Nat) : (s.withFetchWord nbits w).a = s.a := rfl
@[simp] theorem State.withFetchWord_b (s : State) (nbits w : Nat) : (s.withFetchWord nbits w).b = s.b := rfl
@[simp] theorem State.withFetchWord_r0 (s : State) (nbits w : Nat) : (s.withFetchWord nbits w).r0 = s.r0 := rfl
@[simp] theorem State.withFetchWord_r1 (s : State) (nbits w : Nat) : (s.withFetchWord nbits w).r1 = s.r1 := rfl
@[simp] theorem State.withFetchWord_r0Written (s : State) (nbits w : Nat) : (s.withFetchWord nbits w).r0Written = s.r0Written := rfl
@[simp] theorem State.withFetchWord_r1Written (s : State) (nbits w : Nat) : (s.withFetchWord nbits w).r1Written = s.r1Written := rfl
@[simp] theorem State.withFetchWord_status (s : State) (nbits w : Nat) : (s.withFetchWord nbits w).status = s.status := rfl
@[simp] theorem State.withFetchWord_phase (s : State) (nbits w : Nat) : (s.withFetchWord nbits w).phase = .busy := rfl
@[simp] theorem State.withFetchWord_waited (s : State) (nbits w : Nat) : (s.withFetchWord nbits w).waited = 0 := rfl
@[simp] theorem State.withFetchWord_drawCount (s : State) (nbits w : Nat) : (s.withFetchWord nbits w).drawCount = s.drawCount := rfl
@[simp] theorem State.withFetchWord_inputs (s : State) (nbits w : Nat) : (s.withFetchWord nbits w).inputs = .quiet :: s.inputs := rfl

end Sys2Proof.Machine
end

