-- ==== Sys2Proof/Laws/Flags.lean ====
section
/-! SUPPORT. Every field of STATUS after every way it is written (10_state.md R20). -/

namespace Sys2Proof.Machine

/-! ### A completed execution -/

@[simp] theorem State.completed_pv (s : State) (x : Response) : (s.completed x).pv = x.pv := by
  simp only [State.pv, State.completed_status]
  generalize s.status = st; generalize x.pv = p; generalize x.ill = q
  revert st p q; decide

@[simp] theorem State.completed_ill (s : State) (x : Response) : (s.completed x).ill = x.ill := by
  simp only [State.ill, State.completed_status]
  generalize s.status = st; generalize x.pv = p; generalize x.ill = q
  revert st p q; decide

@[simp] theorem State.completed_pvs (s : State) (x : Response) : (s.completed x).pvs = (s.pvs || x.pv) := by
  simp only [State.pvs, State.completed_status]
  generalize s.status = st; generalize x.pv = p; generalize x.ill = q
  revert st p q; decide

@[simp] theorem State.completed_ills (s : State) (x : Response) : (s.completed x).ills = (s.ills || x.ill) := by
  simp only [State.ills, State.completed_status]
  generalize s.status = st; generalize x.pv = p; generalize x.ill = q
  revert st p q; decide

@[simp] theorem State.completed_halt (s : State) (x : Response) : (s.completed x).halt = s.halt := by
  simp only [State.halt, State.completed_status]
  generalize s.status = st; generalize x.pv = p; generalize x.ill = q
  revert st p q; decide

@[simp] theorem State.completed_statusReserved (s : State) (x : Response) :
    (s.completed x).statusReserved = s.statusReserved := by
  simp only [State.statusReserved, State.completed_status]
  generalize s.status = st; generalize x.pv = p; generalize x.ill = q
  revert st p q; decide

/-! ### The fatal abort -/

@[simp] theorem State.aborted_pv (s : State) : s.aborted.pv = s.pv := by
  simp only [State.pv, State.aborted_status]
  generalize s.status = st; revert st; decide

@[simp] theorem State.aborted_ill (s : State) : s.aborted.ill = s.ill := by
  simp only [State.ill, State.aborted_status]
  generalize s.status = st; revert st; decide

@[simp] theorem State.aborted_pvs (s : State) : s.aborted.pvs = s.pvs := by
  simp only [State.pvs, State.aborted_status]
  generalize s.status = st; revert st; decide

@[simp] theorem State.aborted_ills (s : State) : s.aborted.ills = s.ills := by
  simp only [State.ills, State.aborted_status]
  generalize s.status = st; revert st; decide

@[simp] theorem State.aborted_halt (s : State) : s.aborted.halt = true := by
  simp only [State.halt, State.aborted_status]
  generalize s.status = st; revert st; decide

@[simp] theorem State.aborted_statusReserved (s : State) : s.aborted.statusReserved = s.statusReserved := by
  simp only [State.statusReserved, State.aborted_status]
  generalize s.status = st; revert st; decide

/-! ### Reset -/

@[simp] theorem State.resetStep_pv (s : State) : s.resetStep.pv = false := by
  simp [State.pv, statusReset]
@[simp] theorem State.resetStep_ill (s : State) : s.resetStep.ill = false := by
  simp [State.ill, statusReset]
@[simp] theorem State.resetStep_pvs (s : State) : s.resetStep.pvs = false := by
  simp [State.pvs, statusReset]
@[simp] theorem State.resetStep_ills (s : State) : s.resetStep.ills = false := by
  simp [State.ills, statusReset]
@[simp] theorem State.resetStep_halt (s : State) : s.resetStep.halt = false := by
  simp [State.halt, statusReset]
@[simp] theorem State.resetStep_statusReserved (s : State) : s.resetStep.statusReserved = 0 := by
  simp [State.statusReserved, statusReset]

/-! ### The updates that do not write STATUS -/

@[simp] theorem State.nextInputs_pv (s : State) : s.nextInputs.pv = s.pv := rfl
@[simp] theorem State.nextInputs_ill (s : State) : s.nextInputs.ill = s.ill := rfl
@[simp] theorem State.nextInputs_pvs (s : State) : s.nextInputs.pvs = s.pvs := rfl
@[simp] theorem State.nextInputs_ills (s : State) : s.nextInputs.ills = s.ills := rfl
@[simp] theorem State.nextInputs_halt (s : State) : s.nextInputs.halt = s.halt := rfl
@[simp] theorem State.nextInputs_statusReserved (s : State) : s.nextInputs.statusReserved = s.statusReserved := rfl
@[simp] theorem State.accept_pv (s : State) (i : StepInput) : (s.accept i).pv = s.pv := rfl
@[simp] theorem State.accept_ill (s : State) (i : StepInput) : (s.accept i).ill = s.ill := rfl
@[simp] theorem State.accept_pvs (s : State) (i : StepInput) : (s.accept i).pvs = s.pvs := rfl
@[simp] theorem State.accept_ills (s : State) (i : StepInput) : (s.accept i).ills = s.ills := rfl
@[simp] theorem State.accept_halt (s : State) (i : StepInput) : (s.accept i).halt = s.halt := rfl
@[simp] theorem State.accept_statusReserved (s : State) (i : StepInput) : (s.accept i).statusReserved = s.statusReserved := rfl
@[simp] theorem State.wait_pv (s : State) : s.wait.pv = s.pv := rfl
@[simp] theorem State.wait_ill (s : State) : s.wait.ill = s.ill := rfl
@[simp] theorem State.wait_pvs (s : State) : s.wait.pvs = s.pvs := rfl
@[simp] theorem State.wait_ills (s : State) : s.wait.ills = s.ills := rfl
@[simp] theorem State.wait_halt (s : State) : s.wait.halt = s.halt := rfl
@[simp] theorem State.wait_statusReserved (s : State) : s.wait.statusReserved = s.statusReserved := rfl
@[simp] theorem State.deliver_pv (s : State) : s.deliver.pv = s.pv := rfl
@[simp] theorem State.deliver_ill (s : State) : s.deliver.ill = s.ill := rfl
@[simp] theorem State.deliver_pvs (s : State) : s.deliver.pvs = s.pvs := rfl
@[simp] theorem State.deliver_ills (s : State) : s.deliver.ills = s.ills := rfl
@[simp] theorem State.deliver_halt (s : State) : s.deliver.halt = s.halt := rfl
@[simp] theorem State.deliver_statusReserved (s : State) : s.deliver.statusReserved = s.statusReserved := rfl

end Sys2Proof.Machine
end

