-- ==== Sys2Proof/Laws/Float.lean ====
section
/-! SUPPORT. The fields of a composed encoding, the NaN results, and the integer rounding of a shifted coefficient
(30_encoding.md R55, R56; 43_float_common.md R100 to R108). -/

namespace Sys2Proof.Machine

/-- What all four formats have in common (00_scope.md R6). -/
structure FloatFormat.Valid (F : FloatFormat) : Prop where
  total : F.totalBits = 1 + F.exponentBits + F.storedBits
  fits : F.totalBits ≤ 128
  fraction : 2 ≤ F.significandBits
  bias : F.bias = 2 ^ (F.exponentBits - 1) - 1
  exponent : 2 ≤ F.exponentBits

theorem F32_valid : F32.Valid := by constructor <;> decide
theorem F64_valid : F64.Valid := by constructor <;> decide
theorem F80_valid : F80.Valid := by constructor <;> decide
theorem F128_valid : F128.Valid := by constructor <;> decide

/-! ### Fields of a composed encoding -/

theorem encodeFloat_toNat {F : FloatFormat} (hF : F.Valid) {s : Bool} {e sig : Nat}
    (he : e < 2 ^ F.exponentBits) (hs : sig < 2 ^ F.storedBits) :
    (encodeFloat F s e sig).toNat = s.toNat * 2 ^ (F.totalBits - 1) + e * 2 ^ F.storedBits + sig ∧
    e * 2 ^ F.storedBits + sig < 2 ^ (F.totalBits - 1) := by
  have h1 : F.totalBits - 1 = F.exponentBits + F.storedBits := by have := hF.total; omega
  have hlow : e * 2 ^ F.storedBits + sig < 2 ^ (F.totalBits - 1) := by
    rw [h1, pow_add]
    calc e * 2 ^ F.storedBits + sig < e * 2 ^ F.storedBits + 2 ^ F.storedBits := by omega
      _ = (e + 1) * 2 ^ F.storedBits := by ring
      _ ≤ 2 ^ F.exponentBits * 2 ^ F.storedBits := Nat.mul_le_mul_right _ he
  have hall : 2 * 2 ^ (F.totalBits - 1) ≤ 2 ^ 128 := by
    rw [← pow_succ']; exact Nat.pow_le_pow_right (by decide) (by have := hF.fits; have := hF.total; omega)
  refine ⟨?_, hlow⟩
  rw [encodeFloat, BitVec.toNat_ofNat, Nat.mod_eq_of_lt]
  cases s <;> simp <;> omega

/-- Splitting a number made of three fields. -/
theorem fieldNumber {a b x y z : Nat} (hz : z < 2 ^ a) (hy : y * 2 ^ a + z < 2 ^ b) :
    (x * 2 ^ b + y * 2 ^ a + z) / 2 ^ b = x ∧ (x * 2 ^ b + y * 2 ^ a + z) % 2 ^ b = y * 2 ^ a + z ∧
    (y * 2 ^ a + z) / 2 ^ a = y ∧ (y * 2 ^ a + z) % 2 ^ a = z := by
  have hb : 0 < 2 ^ b := by positivity
  have ha : 0 < 2 ^ a := by positivity
  refine ⟨?_, ?_, ?_, ?_⟩
  · rw [add_assoc, Nat.add_comm, Nat.add_mul_div_right _ _ hb, Nat.div_eq_of_lt hy, zero_add]
  · rw [add_assoc, Nat.add_comm, Nat.add_mul_mod_self_right, Nat.mod_eq_of_lt hy]
  · rw [Nat.add_comm, Nat.add_mul_div_right _ _ ha, Nat.div_eq_of_lt hz, zero_add]
  · rw [Nat.add_comm, Nat.add_mul_mod_self_right, Nat.mod_eq_of_lt hz]

@[simp] theorem floatSign_encodeFloat {F : FloatFormat} (hF : F.Valid) {s : Bool} {e sig : Nat}
    (he : e < 2 ^ F.exponentBits) (hs : sig < 2 ^ F.storedBits) : floatSign F (encodeFloat F s e sig) = s := by
  obtain ⟨hn, hlow⟩ := encodeFloat_toNat hF (s := s) he hs
  rw [floatSign, BitVec.getLsbD, hn, Nat.testBit_eq_decide_div_mod_eq]
  rw [(fieldNumber hs hlow).1]
  cases s <;> rfl

@[simp] theorem exponentField_encodeFloat {F : FloatFormat} (hF : F.Valid) {s : Bool} {e sig : Nat}
    (he : e < 2 ^ F.exponentBits) (hs : sig < 2 ^ F.storedBits) : exponentField F (encodeFloat F s e sig) = e := by
  obtain ⟨hn, hlow⟩ := encodeFloat_toNat hF (s := s) he hs
  rw [exponentField, BitVec.extractLsb'_toNat, hn, Nat.shiftRight_eq_div_pow]
  have h1 : F.totalBits - 1 = F.storedBits + F.exponentBits := by have := hF.total; omega
  have : (s.toNat * 2 ^ (F.totalBits - 1) + e * 2 ^ F.storedBits + sig) / 2 ^ F.storedBits
      = s.toNat * 2 ^ F.exponentBits + e := by
    rw [h1, pow_add, show s.toNat * (2 ^ F.storedBits * 2 ^ F.exponentBits) + e * 2 ^ F.storedBits + sig
      = sig + (s.toNat * 2 ^ F.exponentBits + e) * 2 ^ F.storedBits by ring,
      Nat.add_mul_div_right _ _ (by positivity), Nat.div_eq_of_lt hs, zero_add]
  rw [this, Nat.mul_add_mod_self_right, Nat.mod_eq_of_lt he]

/-- The bits below the exponent field of a composed encoding. -/
theorem encodeFloat_low {F : FloatFormat} (hF : F.Valid) {s : Bool} {e sig : Nat}
    (he : e < 2 ^ F.exponentBits) (hs : sig < 2 ^ F.storedBits) :
    (encodeFloat F s e sig).toNat % 2 ^ F.storedBits = sig := by
  obtain ⟨hn, hlow⟩ := encodeFloat_toNat hF (s := s) he hs
  have h1 : F.totalBits - 1 = F.storedBits + F.exponentBits := by have := hF.total; omega
  rw [hn, h1, pow_add, show s.toNat * (2 ^ F.storedBits * 2 ^ F.exponentBits) + e * 2 ^ F.storedBits + sig
      = sig + (s.toNat * 2 ^ F.exponentBits + e) * 2 ^ F.storedBits by ring, Nat.add_mul_mod_self_right,
      Nat.mod_eq_of_lt hs]

theorem significandBits_le_storedBits (F : FloatFormat) : F.significandBits ≤ F.storedBits := by
  simp [FloatFormat.storedBits]

@[simp] theorem fractionField_encodeFloat {F : FloatFormat} (hF : F.Valid) {s : Bool} {e sig : Nat}
    (he : e < 2 ^ F.exponentBits) (hs : sig < 2 ^ F.storedBits) :
    fractionField F (encodeFloat F s e sig) = sig % 2 ^ F.significandBits := by
  have hd : 2 ^ F.significandBits ∣ 2 ^ F.storedBits := Nat.pow_dvd_pow 2 (significandBits_le_storedBits F)
  rw [fractionField, BitVec.extractLsb'_toNat, Nat.shiftRight_zero, ← Nat.mod_mod_of_dvd _ hd,
    encodeFloat_low hF he hs]

@[simp] theorem explicitBit_encodeFloat {F : FloatFormat} (hF : F.Valid) (hJ : F.hasImplicitBit = false)
    {s : Bool} {e sig : Nat} (he : e < 2 ^ F.exponentBits) (hs : sig < 2 ^ F.storedBits) :
    explicitBit F (encodeFloat F s e sig) = decide (2 ^ F.significandBits ≤ sig) := by
  have hst : F.storedBits = F.significandBits + 1 := by simp [FloatFormat.storedBits, hJ]
  have hlow := encodeFloat_low hF (s := s) he hs
  have hb : (encodeFloat F s e sig).toNat.testBit F.significandBits
      = ((encodeFloat F s e sig).toNat % 2 ^ F.storedBits).testBit F.significandBits := by
    rw [Nat.testBit_mod_two_pow]; simp [hst]
  rw [explicitBit, BitVec.getLsbD, hb, hlow, Nat.testBit_eq_decide_div_mod_eq]
  have hp : 0 < 2 ^ F.significandBits := by positivity
  rw [hst, pow_succ] at hs
  congr 1
  rw [eq_iff_iff]
  constructor
  · intro h
    by_contra hlt
    rw [Nat.div_eq_of_lt (by omega)] at h; omega
  · intro h
    have : sig / 2 ^ F.significandBits = 1 := by
      apply Nat.div_eq_of_lt_le <;> omega
    omega

/-! ### NaN results -/

/-- A fraction under a stored integer bit fits below the exponent field (30_encoding.md R55, R56). -/
theorem integerBit_add_lt (F : FloatFormat) {f : Nat} (hf : f < 2 ^ F.significandBits) :
    F.integerBit + f < 2 ^ F.storedBits := by
  cases hJ : F.hasImplicitBit <;> simp only [FloatFormat.integerBit, FloatFormat.storedBits, hJ] <;> simp
  · rw [pow_succ]; omega
  · exact hf

theorem emaxField_lt (F : FloatFormat) : F.emaxField < 2 ^ F.exponentBits :=
  Nat.sub_lt (by positivity) Nat.one_pos

/-- The fraction of a free quiet NaN is a fraction with the quiet bit set (43_float_common.md R108). -/
theorem freeFraction_bounds {F : FloatFormat} (hF : F.Valid) (p : Nat) :
    F.quietBit ≤ F.quietBit + p % F.quietBit ∧ F.quietBit + p % F.quietBit < 2 ^ F.significandBits := by
  have hq : 0 < F.quietBit := by unfold FloatFormat.quietBit; positivity
  have h2 : 2 ^ F.significandBits = 2 * F.quietBit := by
    rw [FloatFormat.quietBit, ← pow_succ', Nat.sub_add_cancel (by have := hF.fraction; omega)]
  have := Nat.mod_lt p hq
  omega

/-- The NaN of a sign has that sign (43_float_common.md R106). -/
@[simp] theorem floatSign_floatNaN {F : FloatFormat} (hF : F.Valid) {s : Bool} {f : Nat} (hf : f < 2 ^ F.significandBits) :
    floatSign F (floatNaN F s f) = s :=
  floatSign_encodeFloat hF (emaxField_lt F) (integerBit_add_lt F hf)

/-- A free quiet NaN has the sign it is given (00_scope.md R7). -/
@[simp] theorem floatSign_freeQuietNaN {F : FloatFormat} (hF : F.Valid) (s : Bool) (p : Word) :
    floatSign F (freeQuietNaN F s p) = s :=
  floatSign_floatNaN hF (freeFraction_bounds hF p.toNat).2

/-- A multiplication's NaN has the sign of the stated one, whatever NAN_PAYLOAD_EXACT (00_scope.md R7; 43_float_common.md
R107). -/
@[simp] theorem floatSign_multiplyNaN {F : FloatFormat} (hF : F.Valid) (e : Bool) (d : Draw) (v : Word) :
    floatSign F (multiplyNaN F e d v) = floatSign F v := by
  cases e <;> simp [multiplyNaN, floatSign_freeQuietNaN hF]

/-- Setting the quiet bit keeps the sign (43_float_common.md R107). -/
@[simp] theorem floatSign_quieted {F : FloatFormat} (hF : F.Valid) (v : Word) : floatSign F (quieted F v) = floatSign F v := by
  have := hF.total; have := hF.fits; have := hF.fraction; have := significandBits_le_storedBits F
  have hne : F.significandBits - 1 ≠ F.totalBits - 1 := by omega
  have h1 : F.totalBits - 1 < 128 := by omega
  have h2 : F.totalBits - 1 < F.totalBits := by omega
  have hq : (BitVec.ofNat 128 F.quietBit).getLsbD (F.totalBits - 1) = false := by
    rw [BitVec.getLsbD_ofNat, FloatFormat.quietBit, Nat.testBit_two_pow_of_ne hne, Bool.and_false]
  rw [floatSign, quieted, BitVec.getLsbD_or, hq, Bool.or_false]
  simp [floatSign, floatOperand, h1, h2]

/-! ### Rounding a shifted coefficient -/

/-- The rounded quotient is the quotient or the next integer (43_float_common.md R103). -/
theorem roundShift_bounds (c d : Nat) : c / 2 ^ d ≤ roundShift c d ∧ roundShift c d ≤ c / 2 ^ d + 1 := by
  simp only [roundShift]; split_ifs <;> omega

/-- Nothing is discarded, nothing is rounded (43_float_common.md R104). -/
theorem roundShift_exact (c d : Nat) (h : 2 ^ d ∣ c) : roundShift c d = c / 2 ^ d := by
  have h0 : c % 2 ^ d = 0 := Nat.mod_eq_zero_of_dvd h
  have hp : 0 < 2 ^ d := by positivity
  simp [roundShift, h0, hp]

@[simp] theorem roundShift_zero (c : Nat) : roundShift c 0 = c := by
  rw [roundShift_exact c 0 (by simp)]; simp

/-- A zero magnitude rounds to the zero of its sign (43_float_common.md R103). -/
@[simp] theorem roundFloat_zero (F : FloatFormat) (s : Bool) (e : Int) : roundFloat F s ⟨0, e⟩ = floatZero F s := by
  simp [roundFloat]

end Sys2Proof.Machine
end

