-- ==== Sys2Proof/Laws/Operands.lean ====
section
/-! SUPPORT. Operand slices and result placement as numbers (30_encoding.md R52 to R54). -/

namespace Sys2Proof.Machine

@[simp] theorem intOperand_toNat (N : Nat) (p : Word) : (intOperand N p).toNat = p.toNat % 2 ^ N := by
  simp [intOperand]

theorem intOperand_eq_zero_iff (N : Nat) (p : Word) : intOperand N p = 0 ↔ p.toNat % 2 ^ N = 0 := by
  rw [← BitVec.toNat_inj, intOperand_toNat]; simp

theorem toPort_toNat {K : Nat} (v : BitVec K) (h : K ≤ 128) : (toPort v).toNat = v.toNat := by
  have hv : v.toNat < 2 ^ 128 := lt_of_lt_of_le v.isLt (Nat.pow_le_pow_right (by decide) h)
  rw [toPort, BitVec.toNat_setWidth, Nat.mod_eq_of_lt hv]

theorem toPort_lt {K : Nat} (v : BitVec K) (h : K ≤ 128) : (toPort v).toNat < 2 ^ K := by
  rw [toPort_toNat v h]; exact v.isLt

theorem floatOperand_toNat (n : Nat) (p : Word) (h : n ≤ 128) : (floatOperand n p).toNat = p.toNat % 2 ^ n := by
  have hlt : p.toNat % 2 ^ n < 2 ^ 128 :=
    lt_of_lt_of_le (Nat.mod_lt _ (by positivity)) (Nat.pow_le_pow_right (by decide) h)
  rw [floatOperand, BitVec.toNat_setWidth, BitVec.toNat_setWidth, Nat.mod_eq_of_lt hlt]

/-- Two ports that agree in their low N bits hold the same integer operand. -/
theorem intOperand_congr {N : Nat} {p q : Word} (h : p.toNat % 2 ^ N = q.toNat % 2 ^ N) :
    intOperand N p = intOperand N q := by
  rw [← BitVec.toNat_inj]; simpa using h

end Sys2Proof.Machine
end

