-- ==== Sys2Proof/Laws/PerInstr.lean ====
section
/-! SUPPORT. Statements about every instruction as syntax, one lemma per constructor. -/

namespace Sys2Proof.Laws.WordRoundTrip

/-- The word of an instruction has legal fields and decodes to the instruction (30_encoding.md R50, R62). -/
def Statement (i : Instr) : Prop := (opWordOf i).wellFormed = true ∧ unpack (encode i) = opWordOf i ∧ decode (encode i) = .ok i

theorem udivmod32 : Statement .udivmod32 := ⟨rfl, rfl, rfl⟩
theorem udivmod64 : Statement .udivmod64 := ⟨rfl, rfl, rfl⟩
theorem udivmod128 : Statement .udivmod128 := ⟨rfl, rfl, rfl⟩
theorem udiv32 : Statement .udiv32 := ⟨rfl, rfl, rfl⟩
theorem udiv64 : Statement .udiv64 := ⟨rfl, rfl, rfl⟩
theorem udiv128 : Statement .udiv128 := ⟨rfl, rfl, rfl⟩
theorem umod32 : Statement .umod32 := ⟨rfl, rfl, rfl⟩
theorem umod64 : Statement .umod64 := ⟨rfl, rfl, rfl⟩
theorem umod128 : Statement .umod128 := ⟨rfl, rfl, rfl⟩
theorem sdivmod32 : Statement .sdivmod32 := ⟨rfl, rfl, rfl⟩
theorem sdivmod64 : Statement .sdivmod64 := ⟨rfl, rfl, rfl⟩
theorem sdivmod128 : Statement .sdivmod128 := ⟨rfl, rfl, rfl⟩
theorem sdiv32 : Statement .sdiv32 := ⟨rfl, rfl, rfl⟩
theorem sdiv64 : Statement .sdiv64 := ⟨rfl, rfl, rfl⟩
theorem sdiv128 : Statement .sdiv128 := ⟨rfl, rfl, rfl⟩
theorem smod32 : Statement .smod32 := ⟨rfl, rfl, rfl⟩
theorem smod64 : Statement .smod64 := ⟨rfl, rfl, rfl⟩
theorem smod128 : Statement .smod128 := ⟨rfl, rfl, rfl⟩
theorem clz32 : Statement .clz32 := ⟨rfl, rfl, rfl⟩
theorem clz64 : Statement .clz64 := ⟨rfl, rfl, rfl⟩
theorem clz128 : Statement .clz128 := ⟨rfl, rfl, rfl⟩
theorem ctz32 : Statement .ctz32 := ⟨rfl, rfl, rfl⟩
theorem ctz64 : Statement .ctz64 := ⟨rfl, rfl, rfl⟩
theorem ctz128 : Statement .ctz128 := ⟨rfl, rfl, rfl⟩
theorem cvtS32F32 : Statement .cvtS32F32 := ⟨rfl, rfl, rfl⟩
theorem cvtS32F64 : Statement .cvtS32F64 := ⟨rfl, rfl, rfl⟩
theorem cvtS32F80 : Statement .cvtS32F80 := ⟨rfl, rfl, rfl⟩
theorem cvtS32F128 : Statement .cvtS32F128 := ⟨rfl, rfl, rfl⟩
theorem cvtS64F32 : Statement .cvtS64F32 := ⟨rfl, rfl, rfl⟩
theorem cvtS64F64 : Statement .cvtS64F64 := ⟨rfl, rfl, rfl⟩
theorem cvtS64F80 : Statement .cvtS64F80 := ⟨rfl, rfl, rfl⟩
theorem cvtS64F128 : Statement .cvtS64F128 := ⟨rfl, rfl, rfl⟩
theorem cvtS128F32 : Statement .cvtS128F32 := ⟨rfl, rfl, rfl⟩
theorem cvtS128F64 : Statement .cvtS128F64 := ⟨rfl, rfl, rfl⟩
theorem cvtS128F80 : Statement .cvtS128F80 := ⟨rfl, rfl, rfl⟩
theorem cvtS128F128 : Statement .cvtS128F128 := ⟨rfl, rfl, rfl⟩
theorem cvtU32F32 : Statement .cvtU32F32 := ⟨rfl, rfl, rfl⟩
theorem cvtU32F64 : Statement .cvtU32F64 := ⟨rfl, rfl, rfl⟩
theorem cvtU32F80 : Statement .cvtU32F80 := ⟨rfl, rfl, rfl⟩
theorem cvtU32F128 : Statement .cvtU32F128 := ⟨rfl, rfl, rfl⟩
theorem cvtU64F32 : Statement .cvtU64F32 := ⟨rfl, rfl, rfl⟩
theorem cvtU64F64 : Statement .cvtU64F64 := ⟨rfl, rfl, rfl⟩
theorem cvtU64F80 : Statement .cvtU64F80 := ⟨rfl, rfl, rfl⟩
theorem cvtU64F128 : Statement .cvtU64F128 := ⟨rfl, rfl, rfl⟩
theorem cvtU128F32 : Statement .cvtU128F32 := ⟨rfl, rfl, rfl⟩
theorem cvtU128F64 : Statement .cvtU128F64 := ⟨rfl, rfl, rfl⟩
theorem cvtU128F80 : Statement .cvtU128F80 := ⟨rfl, rfl, rfl⟩
theorem cvtU128F128 : Statement .cvtU128F128 := ⟨rfl, rfl, rfl⟩
theorem cvtF32F64 : Statement .cvtF32F64 := ⟨rfl, rfl, rfl⟩
theorem cvtF32F80 : Statement .cvtF32F80 := ⟨rfl, rfl, rfl⟩
theorem cvtF32F128 : Statement .cvtF32F128 := ⟨rfl, rfl, rfl⟩
theorem cvtF64F80 : Statement .cvtF64F80 := ⟨rfl, rfl, rfl⟩
theorem cvtF64F128 : Statement .cvtF64F128 := ⟨rfl, rfl, rfl⟩
theorem cvtF80F128 : Statement .cvtF80F128 := ⟨rfl, rfl, rfl⟩
theorem cvtF64F32 : Statement .cvtF64F32 := ⟨rfl, rfl, rfl⟩
theorem cvtF80F32 : Statement .cvtF80F32 := ⟨rfl, rfl, rfl⟩
theorem cvtF80F64 : Statement .cvtF80F64 := ⟨rfl, rfl, rfl⟩
theorem cvtF128F32 : Statement .cvtF128F32 := ⟨rfl, rfl, rfl⟩
theorem cvtF128F64 : Statement .cvtF128F64 := ⟨rfl, rfl, rfl⟩
theorem cvtF128F80 : Statement .cvtF128F80 := ⟨rfl, rfl, rfl⟩
theorem fmulF32 : Statement .fmulF32 := ⟨rfl, rfl, rfl⟩
theorem fmulF64 : Statement .fmulF64 := ⟨rfl, rfl, rfl⟩
theorem fmulF128 : Statement .fmulF128 := ⟨rfl, rfl, rfl⟩

end Sys2Proof.Laws.WordRoundTrip
end

