-- ==== Sys2Proof/Laws/Step.lean ====
section
/-! SUPPORT. What the shared operations and one step can do, said once: later proofs cite these and do not unfold `exec` or
`step`. -/

namespace Sys2Proof.Machine

/-! ### Executions -/

@[simp] theorem udivmod_ill (N : Nat) (d : Draw) (A B : Word) : (udivmod N d A B).ill = false := by
  simp only [udivmod]; split <;> rfl

@[simp] theorem udiv_ill (N : Nat) (d : Draw) (A B : Word) : (udiv N d A B).ill = false := by
  simp only [udiv]; split <;> rfl

@[simp] theorem umod_ill (N : Nat) (d : Draw) (A B : Word) : (umod N d A B).ill = false := by
  simp only [umod]; split <;> rfl

@[simp] theorem sdivmod_ill (N : Nat) (d : Draw) (A B : Word) : (sdivmod N d A B).ill = false := by
  simp only [sdivmod]; split <;> rfl

@[simp] theorem sdiv_ill (N : Nat) (d : Draw) (A B : Word) : (sdiv N d A B).ill = false := by
  simp only [sdiv]; split <;> rfl

@[simp] theorem smod_ill (N : Nat) (d : Draw) (A B : Word) : (smod N d A B).ill = false := by
  simp only [smod]; split <;> rfl

@[simp] theorem zeroCount_ill (N : Nat) (f : CountOfZero → BitVec N → BitVec 32) (d : Draw) (A : Word) :
    (zeroCount N f d A).ill = false := by
  simp only [zeroCount]; split <;> rfl

@[simp] theorem intToFloat_ill (N : Nat) (F : FloatFormat) (g : Bool) (A : Word) : (intToFloat N F g A).ill = false := rfl

@[simp] theorem floatConvert_ill (S D : FloatFormat) (e : Bool) (d : Draw) (A : Word) :
    (floatConvert S D e d A).ill = false := by
  simp only [floatConvert]; split <;> rfl

@[simp] theorem floatMultiply_ill (F : FloatFormat) (e : Bool) (d : Draw) (A B : Word) :
    (floatMultiply F e d A B).ill = false := rfl

/-- Every operation gives a response, never illegal (10_state.md R29 (a); 60_exceptions.md R167, R169). -/
theorem exec_responds (i : Instr) (s : State) :
    ∃ x : Response, exec i s = .next (s.completed x) ∧ x.ill = false := by
  cases i <;> refine ⟨_, rfl, ?_⟩ <;> simp

/-- The execution of a latched request gives a response, illegal exactly for a reserved word (60_exceptions.md R166, R167). -/
theorem executeLatched_responds (s : State) :
    ∃ x : Response, executeLatched s = .next (s.completed x) ∧
      ((∃ i, decode s.op = .ok i ∧ x.ill = false) ∨
       (∃ e, decode s.op = .error e ∧ x = illegalResponse s.draws)) := by
  cases h : decode s.op with
  | ok i =>
    obtain ⟨x, hx, hill⟩ := exec_responds i s
    exact ⟨x, by simp only [executeLatched, h, hx], .inl ⟨i, rfl, hill⟩⟩
  | error e => exact ⟨_, by simp only [executeLatched, h]; rfl, .inr ⟨e, rfl, rfl⟩⟩

/-! ### Reads -/

/-- When a read of a result register is allowed (10_state.md R32). -/
theorem readResult_ok_iff (w : Bool) (p : Phase) (v x : Word) :
    readResult w p v = .ok x ↔ w = true ∧ p = .done ∧ x = v := by
  cases w <;> cases p <;> simp [readResult, eq_comm]

/-- The host's reads of a step are allowed when it makes none. -/
theorem hostReads_of_none (s : State) (h0 : s.input.readR0 = false) (h1 : s.input.readR1 = false) :
    s.hostReads = .ok () := by
  simp [State.hostReads, h0, h1, Except.bind]

/-! ### One step -/

/-- A step whose reads are allowed. -/
theorem step_of_reads (s : State) (h : s.ReadsAllowed) :
    step s = if s.input.rst then .next s.nextInputs.resetStep else phaseStep s.input s.nextInputs := by
  have h' : s.hostReads = .ok () := h
  simp only [step, h']

/-- Everything a step can do when it answers a next state (10_state.md R28 to R30; 60_exceptions.md R168;
70_reset_and_hazards.md R179). -/
theorem step_cases {s t : State} (h : step s = .next t) :
    s.ReadsAllowed ∧
    ((s.input.rst = true ∧ t = s.nextInputs.resetStep) ∨
     (s.input.rst = false ∧
      ((s.phase = .idle ∧ s.input.reqValid = true ∧ t = s.nextInputs.accept s.input) ∨
       (s.phase = .idle ∧ s.input.reqValid = false ∧ t = s.nextInputs) ∨
       (s.phase = .busy ∧ s.nextInputs.keepsWaiting s.input = true ∧ t = s.nextInputs.wait) ∨
       (s.phase = .busy ∧ s.nextInputs.keepsWaiting s.input = false ∧ s.input.abort = true ∧ t = s.nextInputs.aborted) ∨
       (s.phase = .busy ∧ s.nextInputs.keepsWaiting s.input = false ∧ s.input.abort = false ∧
        executeLatched s.nextInputs = .next t) ∨
       (s.phase = .done ∧ s.input.rspReady = true ∧ t = s.nextInputs.deliver) ∨
       (s.phase = .done ∧ s.input.rspReady = false ∧ t = s.nextInputs) ∨
       (s.phase = .halted ∧ t = s.nextInputs)))) := by
  unfold step at h
  cases hr : s.hostReads with
  | error f => simp [hr] at h
  | ok u =>
    refine ⟨hr, ?_⟩
    simp only [hr] at h
    cases hrst : s.input.rst with
    | true => left; simp only [hrst, if_true] at h; exact ⟨rfl, by injection h with h; exact h.symm⟩
    | false =>
      right; refine ⟨rfl, ?_⟩
      simp only [hrst, Bool.false_eq_true, if_false, phaseStep, State.nextInputs_phase] at h
      cases hp : s.phase with
      | idle =>
        cases hv : s.input.reqValid <;> simp only [hp, hv, Bool.false_eq_true, if_false, if_true] at h <;>
          (injection h with h; simp [h])
      | done =>
        cases hv : s.input.rspReady <;> simp only [hp, hv, Bool.false_eq_true, if_false, if_true] at h <;>
          (injection h with h; simp [h])
      | halted => simp only [hp] at h; injection h with h; simp [h]
      | busy =>
        cases hw : s.nextInputs.keepsWaiting s.input <;> cases ha : s.input.abort <;>
          simp only [hp, hw, ha, Bool.false_eq_true, if_false, if_true] at h
        · simp [h]
        · injection h with h; simp [h]
        · injection h with h; simp [h]
        · injection h with h; simp [h]

end Sys2Proof.Machine
end

