-- ==== Sys2Proof/Laws/ZeroCount.lean ====
section
/-! SUPPORT. The base counts and the mask selection of the zero counter (42_zero_count.md R91 to R93). -/

namespace Sys2Proof.Machine

/-- The counted zeros are those below the lowest 1, when that 1 is within the fuel (42_zero_count.md R91). -/
theorem lowZeros_spec (fuel x : Nat) (h0 : x ≠ 0) (hx : x < 2 ^ fuel) :
    lowZeros fuel x < fuel ∧ 2 ^ lowZeros fuel x ∣ x ∧ ¬ 2 ^ (lowZeros fuel x + 1) ∣ x := by
  induction fuel generalizing x with
  | zero => simp at hx; exact absurd hx h0
  | succ n ih =>
    by_cases hodd : x % 2 = 1
    · simp only [lowZeros, hodd, if_true]
      refine ⟨by omega, one_dvd _, ?_⟩
      intro h; have : 2 ∣ x := by simpa using h
      omega
    · obtain ⟨y, rfl⟩ : ∃ y, x = 2 * y := ⟨x / 2, by omega⟩
      have hy : y < 2 ^ n := by rw [pow_succ] at hx; omega
      obtain ⟨h1, h2, h3⟩ := ih y (by omega) hy
      have hstep : lowZeros (n + 1) (2 * y) = lowZeros n y + 1 := by
        simp [lowZeros]
      rw [hstep]
      refine ⟨by omega, ?_, ?_⟩
      · rw [pow_succ, mul_comm]; exact Nat.mul_dvd_mul_left 2 h2
      · intro h
        apply h3
        rw [pow_succ _ (lowZeros n y + 1), mul_comm] at h
        exact Nat.dvd_of_mul_dvd_mul_left (by decide) h

/-- With the mask clear the first count is selected (42_zero_count.md R92, R93). -/
@[simp] theorem selectCount_clear (x y : BitVec 32) : selectCount 0 x y = x := by
  have h : ~~~(0 : BitVec 32) = BitVec.allOnes 32 := by decide
  rw [selectCount, h, BitVec.and_allOnes]
  exact (congrArg (x ||| ·) BitVec.and_zero).trans BitVec.or_zero

/-- With the mask set the second count is selected (42_zero_count.md R92, R93). -/
@[simp] theorem selectCount_set (x y : BitVec 32) : selectCount (BitVec.allOnes 32) x y = y := by
  rw [selectCount, BitVec.and_allOnes, BitVec.not_allOnes, BitVec.and_zero, BitVec.zero_or]

theorem zeroMask_of_ne {K : Nat} {h : BitVec K} (hne : h ≠ 0) : zeroMask h = 0 := if_neg hne

theorem zeroMask_zero {K : Nat} : zeroMask (0 : BitVec K) = BitVec.allOnes 32 := if_pos rfl

/-- The base counts use the unspecified value for 0 alone (42_zero_count.md R91). -/
theorem clz32_of_ne (u : BitVec 32) {x : BitVec 32} (h : x ≠ 0) :
    clz32 u x = BitVec.ofNat 32 (31 - Nat.log2 x.toNat) := if_neg h

theorem ctz32_of_ne (u : BitVec 32) {x : BitVec 32} (h : x ≠ 0) :
    ctz32 u x = BitVec.ofNat 32 (lowZeros 32 x.toNat) := if_neg h

end Sys2Proof.Machine
end

