-- ==== Sys2Proof/Tests/Slice0.lean ====
section
/-! SUPPORT. The model's own tests: the checks of WellFormed refuse, the words of the opcode map decode, single executions give
the spec's examples (the rule named in each comment), and every hypothesis of a statement is met by a concrete case. -/

namespace Sys2Proof.Tests

set_option Elab.async false

open Sys2Proof Sys2Proof.Machine

/-! ### Helpers -/

/-- The reset state with two operands in the latches. -/
def latched (a b : Nat) : State := { State.reset with a := BitVec.ofNat 128 a, b := BitVec.ofNat 128 b }

/-- The reset state with word `w` and operands `a`, `b` about to execute. -/
def busy (w a b : Nat) : State := (latched a b).withFetchWord 16 w

/-- Both results and STATUS of a next state. -/
def resultOf : Outcome → Option (Word × Word × Status)
  | .next t => some (t.r0, t.r1, t.status)
  | _ => none

/-- STATUS of a next state. -/
def statusOf : Outcome → Option Status
  | .next t => some t.status
  | _ => none

/-- The outcome is a next state that passes the check `p`. -/
def nextWith (p : State → Bool) : Outcome → Bool
  | .next t => p t
  | _ => false

/-- One step that executes word `w` on `a` and `b`. -/
def answer (w a b : Nat) : Option (Word × Word × Status) := resultOf (step (busy w a b))

/-- A response held in DONE: the state after such a step. -/
def done (r0 r1 : Word) : State :=
  { State.reset with r0 := r0, r1 := r1, r0Written := true, r1Written := true, phase := .done }

/-! ### WellFormed refuses -/

theorem test_family_refused : OpWord.familyOk ⟨0x6, 0x0, 0x0, 0x0⟩ = false := by decide
theorem test_kind_refused : OpWord.kindOk ⟨0x1, 0x3, 0x0, 0x0⟩ = false := by decide
theorem test_width_code_refused : OpWord.srcOk ⟨0x1, 0x0, 0x3, 0x0⟩ = false := by decide
theorem test_format_code_refused : OpWord.dstOk ⟨0x3, 0x0, 0x0, 0x4⟩ = false := by decide
theorem test_destination_refused : OpWord.dstOk ⟨0x2, 0x0, 0x0, 0x1⟩ = false := by decide
theorem test_same_format_refused : OpWord.formatsDiffer ⟨0x4, 0x0, 0x2, 0x2⟩ = false := by decide
theorem test_f80_multiply_refused : OpWord.srcOk ⟨0x5, 0x0, 0x2, 0x0⟩ = false := by decide
theorem test_illformed_refused : OpWord.wellFormed ⟨0x1, 0x0, 0x0, 0x3⟩ = false := by decide

/-! ### Decoding: the words of 30_encoding.md R62, and reserved words of 95_test_vectors.md §2.7 -/

theorem test_decode_division_1 :
    ([0x1000, 0x1010, 0x1020, 0x1100, 0x1110, 0x1120, 0x1200, 0x1210, 0x1220, 0x1800, 0x1810, 0x1820] : List Opcode).map (fun w => (decode w).toOption) =
    ([.udivmod32, .udivmod64, .udivmod128, .udiv32, .udiv64, .udiv128, .umod32, .umod64, .umod128, .sdivmod32, .sdivmod64, .sdivmod128] : List Instr).map some := by decide

theorem test_decode_division_2 :
    ([0x1900, 0x1910, 0x1920, 0x1A00, 0x1A10, 0x1A20] : List Opcode).map (fun w => (decode w).toOption) =
    ([.sdiv32, .sdiv64, .sdiv128, .smod32, .smod64, .smod128] : List Instr).map some := by decide

theorem test_decode_zero_count :
    ([0x2000, 0x2010, 0x2020, 0x2100, 0x2110, 0x2120] : List Opcode).map (fun w => (decode w).toOption) =
    ([.clz32, .clz64, .clz128, .ctz32, .ctz64, .ctz128] : List Instr).map some := by decide

theorem test_decode_int_to_float_1 :
    ([0x3800, 0x3801, 0x3802, 0x3803, 0x3810, 0x3811, 0x3812, 0x3813, 0x3820, 0x3821, 0x3822, 0x3823] : List Opcode).map (fun w => (decode w).toOption) =
    ([.cvtS32F32, .cvtS32F64, .cvtS32F80, .cvtS32F128, .cvtS64F32, .cvtS64F64, .cvtS64F80, .cvtS64F128, .cvtS128F32, .cvtS128F64, .cvtS128F80, .cvtS128F128] : List Instr).map some := by decide

theorem test_decode_int_to_float_2 :
    ([0x3000, 0x3001, 0x3002, 0x3003, 0x3010, 0x3011, 0x3012, 0x3013, 0x3020, 0x3021, 0x3022, 0x3023] : List Opcode).map (fun w => (decode w).toOption) =
    ([.cvtU32F32, .cvtU32F64, .cvtU32F80, .cvtU32F128, .cvtU64F32, .cvtU64F64, .cvtU64F80, .cvtU64F128, .cvtU128F32, .cvtU128F64, .cvtU128F80, .cvtU128F128] : List Instr).map some := by decide

theorem test_decode_float_convert :
    ([0x4001, 0x4002, 0x4003, 0x4012, 0x4013, 0x4023, 0x4010, 0x4020, 0x4021, 0x4030, 0x4031, 0x4032] : List Opcode).map (fun w => (decode w).toOption) =
    ([.cvtF32F64, .cvtF32F80, .cvtF32F128, .cvtF64F80, .cvtF64F128, .cvtF80F128, .cvtF64F32, .cvtF80F32, .cvtF80F64, .cvtF128F32, .cvtF128F64, .cvtF128F80] : List Instr).map some := by decide

theorem test_decode_multiply :
    ([0x5000, 0x5010, 0x5030] : List Opcode).map (fun w => (decode w).toOption) =
    ([.fmulF32, .fmulF64, .fmulF128] : List Instr).map some := by decide

theorem test_decode_reserved :
    ([0x0000, 0x1003, 0x1030, 0x1300, 0x2200, 0x2001, 0x3400, 0x3004, 0x4000, 0x4022, 0x4100, 0x5020, 0x5001, 0x5040, 0x6000,
      0xFFFF] : List Opcode).map (fun w => (decode w).toOption) = List.replicate 16 none := by decide

theorem test_decode_table_word : decodeTableWord 16 0x5030 = some .fmulF128 := by decide

/-! ### One execution of every operation: an example or corner case of its rule -/

-- R69
theorem test_udivmod32 : answer 0x1000 0xFFFFFFFF00000007 0x100000002 = some (0x3, 0x1, 0x00) := by decide +kernel
-- R70
theorem test_udivmod64 : answer 0x1010 0xFFFFFFFFFFFFFFFF 10 = some (0x1999999999999999, 5, 0x00) := by decide +kernel
-- R71
theorem test_udivmod128 : answer 0x1020 0x10000000000000000000000007 0x10000000000000001 = some (0xFFFFFFFFF, 0xFFFFFFF000000008, 0x00) := by decide +kernel
-- R72
theorem test_udiv32 : answer 0x1100 100 7 = some (14, 0, 0x00) := by decide +kernel
-- R73
theorem test_udiv64 : answer 0x1110 0x123456789ABCDEF0 0x1000 = some (0x123456789ABCD, 0, 0x00) := by decide +kernel
-- R74
theorem test_udiv128 : answer 0x1120 0xFFFFFFFFFFFFFFFFFFFFFFFFFFFFFFFF 3 = some (0x55555555555555555555555555555555, 0, 0x00) := by decide +kernel
-- R75
theorem test_umod32 : answer 0x1200 1000000007 65536 = some (0xCA07, 0, 0x00) := by decide +kernel
-- R76
theorem test_umod64 : answer 0x1210 0x8000000000000000 3 = some (2, 0, 0x00) := by decide +kernel
-- R77
theorem test_umod128 : answer 0x1220 0x10000000000000000000000007 0x10000000000000001 = some (0xFFFFFFF000000008, 0, 0x00) := by decide +kernel
-- R82
theorem test_sdivmod32 : answer 0x1800 0xFFFFFFF9 2 = some (0xFFFFFFFD, 0xFFFFFFFF, 0x00) := by decide +kernel
-- R83
theorem test_sdivmod64 : answer 0x1810 0xFFFFFFFFFFFFFF9C 7 = some (0xFFFFFFFFFFFFFFF2, 0xFFFFFFFFFFFFFFFE, 0x00) := by decide +kernel
-- R84
theorem test_sdivmod128 : answer 0x1820 0x80000000000000000000000000000000 0xFFFFFFFFFFFFFFFFFFFFFFFFFFFFFFFF = some (0x80000000000000000000000000000000, 0, 0x00) := by decide +kernel
-- R85
theorem test_sdiv32 : answer 0x1900 7 0xFFFFFFFE = some (0xFFFFFFFD, 0, 0x00) := by decide +kernel
-- R86
theorem test_sdiv64 : answer 0x1910 0x8000000000000000 1 = some (0x8000000000000000, 0, 0x00) := by decide +kernel
-- R87
theorem test_sdiv128 : answer 0x1920 0x80000000000000000000000000000000 3 = some (0xD5555555555555555555555555555556, 0, 0x00) := by decide +kernel
-- R88
theorem test_smod32 : answer 0x1A00 7 0xFFFFFFFE = some (1, 0, 0x00) := by decide +kernel
-- R89
theorem test_smod64 : answer 0x1A10 0xFFFFFFFFFFFFFFF9 0xFFFFFFFFFFFFFFFE = some (0xFFFFFFFFFFFFFFFF, 0, 0x00) := by decide +kernel
-- R90
theorem test_smod128 : answer 0x1A20 0x80000000000000000000000000000000 3 = some (0xFFFFFFFFFFFFFFFFFFFFFFFFFFFFFFFE, 0, 0x00) := by decide +kernel
-- R94
theorem test_clz32 : answer 0x2000 0x00010000 0 = some (15, 0, 0x00) := by decide +kernel
-- R95 (the definition, by hand: every half is nonzero, so no draw is in the term)
theorem test_clz64 : answer 0x2010 0x0000000180000001 0 = some (31, 0, 0x00) := by decide +kernel
-- R96 (by hand)
theorem test_clz128 : answer 0x2020 0x00000001000000010000000100000001 0 = some (31, 0, 0x00) := by decide +kernel
-- R97
theorem test_ctz32 : answer 0x2100 0x00010000 0 = some (16, 0, 0x00) := by decide +kernel
-- R98 (by hand)
theorem test_ctz64 : answer 0x2110 0x0000000100010000 0 = some (16, 0, 0x00) := by decide +kernel
-- R99 (by hand)
theorem test_ctz128 : answer 0x2120 0x00000001000000010000000180000000 0 = some (31, 0, 0x00) := by decide +kernel
-- R116
theorem test_cvtS32F32 : answer 0x3800 0x7FFFFFFF 0 = some (0x4F000000, 0, 0x00) := by decide +kernel
-- R117
theorem test_cvtS32F64 : answer 0x3801 0x7FFFFFFF 0 = some (0x41DFFFFFFFC00000, 0, 0x00) := by decide +kernel
-- R118
theorem test_cvtS32F80 : answer 0x3802 0xFFFFFFFF 0 = some (0xBFFF8000000000000000, 0, 0x00) := by decide +kernel
-- R119
theorem test_cvtS32F128 : answer 0x3803 0xFFFFFFF9 0 = some (0xC001C000000000000000000000000000, 0, 0x00) := by decide +kernel
-- R120
theorem test_cvtS64F32 : answer 0x3810 0x7FFFFFFFFFFFFFFF 0 = some (0x5F000000, 0, 0x00) := by decide +kernel
-- R121
theorem test_cvtS64F64 : answer 0x3811 0x20000000000001 0 = some (0x4340000000000000, 0, 0x00) := by decide +kernel
-- R122
theorem test_cvtS64F80 : answer 0x3812 0x8000000000000000 0 = some (0xC03E8000000000000000, 0, 0x00) := by decide +kernel
-- R123
theorem test_cvtS64F128 : answer 0x3813 0x7FFFFFFFFFFFFFFF 0 = some (0x403DFFFFFFFFFFFFFFFC000000000000, 0, 0x00) := by decide +kernel
-- R124
theorem test_cvtS128F32 : answer 0x3820 0x80000000000000000000000000000000 0 = some (0xFF000000, 0, 0x00) := by decide +kernel
-- R125
theorem test_cvtS128F64 : answer 0x3821 0x27E41B3246BEC9B16E398115 0 = some (0x45C3F20D99235F65, 0, 0x00) := by decide +kernel
-- R126
theorem test_cvtS128F80 : answer 0x3822 0x7FFFFFFFFFFFFFFFFFFFFFFFFFFFFFFF 0 = some (0x407E8000000000000000, 0, 0x00) := by decide +kernel
-- R127
theorem test_cvtS128F128 : answer 0x3823 0x7FFFFFFFFFFFFFFFFFFFFFFFFFFFFFFF 0 = some (0x407E0000000000000000000000000000, 0, 0x00) := by decide +kernel
-- R128
theorem test_cvtU32F32 : answer 0x3000 0xFFFFFFFF 0 = some (0x4F800000, 0, 0x00) := by decide +kernel
-- R129
theorem test_cvtU32F64 : answer 0x3001 0xFFFFFFFF 0 = some (0x41EFFFFFFFE00000, 0, 0x00) := by decide +kernel
-- R130
theorem test_cvtU32F80 : answer 0x3002 0xFFFFFFFF 0 = some (0x401EFFFFFFFF00000000, 0, 0x00) := by decide +kernel
-- R131
theorem test_cvtU32F128 : answer 0x3003 0xFFFFFFFF 0 = some (0x401EFFFFFFFE00000000000000000000, 0, 0x00) := by decide +kernel
-- R132
theorem test_cvtU64F32 : answer 0x3010 0xFFFFFFFFFFFFFFFF 0 = some (0x5F800000, 0, 0x00) := by decide +kernel
-- R133
theorem test_cvtU64F64 : answer 0x3011 0xFFFFFFFFFFFFFFFF 0 = some (0x43F0000000000000, 0, 0x00) := by decide +kernel
-- R134
theorem test_cvtU64F80 : answer 0x3012 0xFFFFFFFFFFFFFFFF 0 = some (0x403EFFFFFFFFFFFFFFFF, 0, 0x00) := by decide +kernel
-- R135
theorem test_cvtU64F128 : answer 0x3013 0xFFFFFFFFFFFFFFFF 0 = some (0x403EFFFFFFFFFFFFFFFE000000000000, 0, 0x00) := by decide +kernel
-- R136
theorem test_cvtU128F32 : answer 0x3020 0xFFFFFFFFFFFFFFFFFFFFFFFFFFFFFFFF 0 = some (0x7F800000, 0, 0x00) := by decide +kernel
-- R137
theorem test_cvtU128F64 : answer 0x3021 0xFFFFFFFFFFFFFFFFFFFFFFFFFFFFFFFF 0 = some (0x47F0000000000000, 0, 0x00) := by decide +kernel
-- R138
theorem test_cvtU128F80 : answer 0x3022 0x10000000000000001 0 = some (0x403F8000000000000000, 0, 0x00) := by decide +kernel
-- R139
theorem test_cvtU128F128 : answer 0x3023 0xFFFFFFFFFFFFFFFFFFFFFFFFFFFFFFFF 0 = some (0x407F0000000000000000000000000000, 0, 0x00) := by decide +kernel
-- R144
theorem test_cvtF32F64 : answer 0x4001 0x00000001 0 = some (0x36A0000000000000, 0, 0x00) := by decide +kernel
-- R145
theorem test_cvtF32F80 : answer 0x4002 0x00000001 0 = some (0x3F6A8000000000000000, 0, 0x00) := by decide +kernel
-- R146
theorem test_cvtF32F128 : answer 0x4003 0x807FFFFF 0 = some (0xBF80FFFFFC0000000000000000000000, 0, 0x00) := by decide +kernel
-- R147
theorem test_cvtF64F80 : answer 0x4012 0x3FB999999999999A 0 = some (0x3FFBCCCCCCCCCCCCD000, 0, 0x00) := by decide +kernel
-- R148
theorem test_cvtF64F128 : answer 0x4013 0x000FFFFFFFFFFFFF 0 = some (0x3C00FFFFFFFFFFFFE000000000000000, 0, 0x00) := by decide +kernel
-- R149
theorem test_cvtF80F128 : answer 0x4023 0x00000000000000000001 0 = some (0x00000000000000000002000000000000, 0, 0x00) := by decide +kernel
-- R150
theorem test_cvtF64F32 : answer 0x4010 0x380FFFFFF0000000 0 = some (0x00800000, 0, 0x00) := by decide +kernel
-- R151
theorem test_cvtF80F32 : answer 0x4020 0x407EFFFFFFFFFFFFFFFF 0 = some (0x7F800000, 0, 0x00) := by decide +kernel
-- R152
theorem test_cvtF80F64 : answer 0x4021 0x3FFF8000000000000C00 0 = some (0x3FF0000000000002, 0, 0x00) := by decide +kernel
-- R153
theorem test_cvtF128F32 : answer 0x4030 0x3FFF0000030000000000000000000000 0 = some (0x3F800002, 0, 0x00) := by decide +kernel
-- R154
theorem test_cvtF128F64 : answer 0x4031 0x3FFF0000000000000800000000000000 0 = some (0x3FF0000000000000, 0, 0x00) := by decide +kernel
-- R155
theorem test_cvtF128F80 : answer 0x4032 0x43FEFFFFFFFFFFFFFFFFFFFFFFFFFFFF 0 = some (0x43FF8000000000000000, 0, 0x00) := by decide +kernel
-- R160
theorem test_fmulF32 : answer 0x5000 0x00000003 0x3F000000 = some (0x00000002, 0, 0x00) := by decide +kernel
-- R161
theorem test_fmulF64 : answer 0x5010 0x3FB999999999999A 0x4024000000000000 = some (0x3FF0000000000000, 0, 0x00) := by decide +kernel
-- R162
theorem test_fmulF128 : answer 0x5030 0x7FFEFFFFFFFFFFFFFFFFFFFFFFFFFFFF 0x40000000000000000000000000000000 = some (0x7FFF0000000000000000000000000000, 0, 0x00) := by decide +kernel

/-! ### Corner cases -/

-- R67, R170: divisor zero sets PV and PVS, and R1 of a quotient is 0
theorem test_divide_by_zero_status : statusOf (step (busy 0x1000 0x3039 0)) = some 0x05 := by decide +kernel
theorem test_quotient_by_zero_clears_r1 : (answer 0x1100 5 0).map (fun x => (x.2.1, x.2.2)) = some (0, 0x05) := by decide +kernel
-- R94: zero count of zero
theorem test_count_of_zero_status : statusOf (step (busy 0x2000 0 0)) = some 0x05 := by decide +kernel
-- R95, R96, R98, R99: the examples, whatever the base counts of zero inside are
theorem test_composed_counts :
    (clz64 (fun _ => 0xFFFFFFFF) 0x8000000000000000, clz128 (fun _ => 0xFFFFFFFF) 0x80000000,
     ctz64 (fun _ => 0xFFFFFFFF) 0x0000800000000000, ctz128 (fun _ => 0xFFFFFFFF) 0x10000000000000000) = (0, 96, 47, 64) := by
  decide +kernel
-- R149: an unnormal F80 operand
theorem test_unnormal_status : statusOf (step (busy 0x4023 0x3FFF0000000000000000 0)) = some 0x05 := by decide +kernel
-- 95_test_vectors.md §2.7 and P3: reserved words, sticky bits kept
theorem test_reserved_word_status : statusOf (step (busy 0x5020 7 2)) = some 0x0A := by decide +kernel
theorem test_reserved_word_keeps_pvs :
    statusOf (step { busy 0x5020 7 2 with status := 0x04 }) = some 0x0E := by decide +kernel
theorem test_normal_result_keeps_sticky :
    statusOf (step { busy 0x1200 10 3 with status := 0x0D }) = some 0x0C := by decide +kernel
-- R106: a signalling NaN through conversions, where the payload is exact
theorem test_nan_extension :
    (floatConvert F32 F64 true (fun _ _ => 0) 0xFFC00001).r0 = 0xFFF8000020000000 := by decide +kernel
theorem test_nan_truncation :
    (floatConvert F128 F80 true (fun _ _ => 0) 0x7FFF8000000000000000000000000001).r0 = 0x7FFFC000000000000000 := by decide +kernel
-- R160: NaN operands, and infinity times zero
theorem test_first_nan_wins : multiplyFloat F32 true (fun _ _ => 0) 0x7F800001 0x7FC00002 = 0x7FC00001 := by decide +kernel
theorem test_second_nan_keeps_sign : multiplyFloat F32 true (fun _ _ => 0) 0x3F800000 0xFFA00000 = 0xFFE00000 := by decide +kernel
theorem test_infinity_times_zero : multiplyFloat F32 true (fun _ _ => 0) 0x00000000 0xFF800000 = 0x7FC00000 := by decide +kernel
-- R65: the engine's algorithm on its early exits and its loop
theorem test_restoring_same_top_bit : restoringDivide (6 : BitVec 32) 7 = (0, 6) := by decide +kernel
theorem test_restoring_by_one : restoringDivide (0xFFFFFFFF : BitVec 32) 1 = (0xFFFFFFFF, 0) := by decide +kernel
theorem test_restoring_wide :
    restoringDivide (0x10000000000000000000000007 : BitVec 128) 0x10000000000000001 = (0xFFFFFFFFF, 0xFFFFFFF000000008) := by
  decide +kernel
-- 95_test_vectors.md P4: accept, deliver, reset in flight
theorem test_accept :
    nextWith (fun t => decide (t.phase = .busy) && decide (t.op = 0x1000) && decide (t.a = 7) && decide (t.b = 2) && decide (t.status = 0))
      (step { State.reset with inputs := [{ StepInput.quiet with reqValid := true, reqOp := 0x1000, reqA := 7, reqB := 2 }] }) = true := by decide +kernel
theorem test_deliver :
    nextWith (fun t => decide (t.phase = .idle) && decide (t.r0 = 3) && decide (t.r1 = 1))
      (step { done 3 1 with inputs := [{ StepInput.quiet with rspReady := true }] }) = true := by decide +kernel
theorem test_reset_in_flight :
    nextWith (fun t => decide (t.phase = .idle) && decide (t.status = 0) && decide (t.r0Written = false))
      (step { busy 0x2000 0 0 with inputs := [{ StepInput.quiet with rst := true }] }) = true := by decide +kernel
theorem test_abort_halts :
    nextWith (fun t => decide (t.phase = .halted) && decide (t.status = 0x10))
      (step { busy 0x2000 1 0 with inputs := [{ StepInput.quiet with abort := true }] }) = true := by decide +kernel

/-! ### The hypotheses of the statements are met -/

/-- A busy state about to execute UDIVMOD32 7, 2. -/
def dividing : State := busy 0x1000 7 2

/-- The idle reset state with one input. -/
def withInput (i : StepInput) : State := { State.reset with inputs := [i] }

theorem witness_StepRunsDecodedOperation :
    dividing.phase = .busy ∧ dividing.ReadsAllowed ∧ dividing.input.rst = false ∧
    dividing.nextInputs.keepsWaiting dividing.input = false ∧ dividing.input.abort = false ∧
    decode dividing.op = .ok .udivmod32 := ⟨rfl, rfl, rfl, rfl, rfl, rfl⟩

theorem witness_FetchWordRunsNext : decodeTableWord 16 0x2110 = some .ctz64 := rfl

theorem witness_ZeroWordAndF80MultiplyAreIllegal :
    (busy 0x0000 7 2).op = 0x0000 ∧ (busy 0x5020 7 2).op = 0x5020 := ⟨rfl, rfl⟩

theorem witness_DecodeIsTheOpcodeMap : ∀ i, (busy 0x0000 7 2).op ≠ encode i := by
  intro i; cases i <;> decide

theorem witness_AcceptOnlyInIdle :
    (withInput { StepInput.quiet with reqValid := true }).phase = .idle ∧
    (withInput { StepInput.quiet with reqValid := true }).ReadsAllowed ∧
    (withInput { StepInput.quiet with reqValid := true }).input.rst = false ∧
    (withInput { StepInput.quiet with reqValid := true }).input.reqValid = true ∧
    State.reset.phase = .idle ∧ State.reset.ReadsAllowed ∧ State.reset.input.rst = false ∧
    State.reset.input.reqValid = false ∧ dividing.phase ≠ .idle := ⟨rfl, rfl, rfl, rfl, rfl, rfl, rfl, rfl, by decide⟩

/-- A presented response and a host that reads it and takes it. -/
def delivering : State := { done 3 1 with inputs := [{ StepInput.quiet with rspReady := true, readR0 := true, readR1 := true }] }

theorem witness_DeliverKeepsResults :
    delivering.phase = .done ∧ delivering.ReadsAllowed ∧ delivering.input.rst = false ∧ delivering.input.rspReady = true ∧
    step delivering = .next delivering.nextInputs.deliver ∧
    ¬ (delivering.phase = .busy ∧ delivering.nextInputs.keepsWaiting delivering.input = false) :=
  ⟨rfl, rfl, rfl, rfl, rfl, by decide⟩

/-- A request in flight that is asked to take another step. -/
def waiting : State := { dividing with inputs := [{ StepInput.quiet with stall := true }] }

/-- LAT is open (10_state.md R29), so whether an operation may wait at all is too: the hypotheses are met wherever its LAT is
above 1. -/
theorem witness_DeliverKeepsResults_wait (h : 1 < Config.lat waiting.op) :
    waiting.phase = .busy ∧ waiting.ReadsAllowed ∧ waiting.input.rst = false ∧
    waiting.nextInputs.keepsWaiting waiting.input = true ∧ step waiting = .next waiting.nextInputs.wait ∧
    ¬ (waiting.phase = .busy ∧ waiting.nextInputs.keepsWaiting waiting.input = false) := by
  have hw : waiting.nextInputs.keepsWaiting waiting.input = true := decide_eq_true (p := 0 + 1 < Config.lat waiting.op) h
  refine ⟨rfl, rfl, rfl, hw, ?_, fun hc => Bool.noConfusion (hw.symm.trans hc.2)⟩
  show (if waiting.nextInputs.keepsWaiting waiting.input then _ else _) = _
  rw [hw]; rfl

theorem witness_DoneWaitsForReady :
    (done 3 1).phase = .done ∧ (done 3 1).ReadsAllowed ∧ (done 3 1).input.rst = false ∧ (done 3 1).input.rspReady = false :=
  ⟨rfl, rfl, rfl, rfl⟩

theorem witness_ResponseWithinLat :
    dividing.phase = .busy ∧ dividing.waited < Config.lat dividing.op ∧
    (∀ i ∈ dividing.inputs, i.rst = false ∧ i.abort = false ∧ i.readR0 = false ∧ i.readR1 = false) :=
  ⟨rfl, Nat.succ_pos _, by decide⟩

theorem witness_ReservedWordIsIllegal : decode (busy 0x1030 7 2).op = .error .width := rfl

theorem witness_ResetStepFromAnyPhase :
    (withInput { StepInput.quiet with rst := true }).ReadsAllowed ∧
    (withInput { StepInput.quiet with rst := true }).input.rst = true ∧
    step { State.reset with phase := .halted, status := 0x1C } = .next { State.reset with phase := .halted, status := 0x1C } :=
  ⟨rfl, rfl, rfl⟩

theorem witness_ResetStateIsReady :
    let i := { StepInput.quiet with reqValid := true }
    i.rst = false ∧ i.readR0 = false ∧ i.readR1 = false ∧ i.reqValid = true := ⟨rfl, rfl, rfl, rfl⟩

/-- The host reads R0 in every phase it may not, and R1 alone. -/
def reading0 : StepInput := { StepInput.quiet with readR0 := true }

/-- The host reads R1 alone. -/
def reading1 : StepInput := { StepInput.quiet with readR1 := true }

theorem witness_ResultReadsOnlyFromResponses :
    ((withInput reading0).input.readR0 = true ∧ (withInput reading0).r0Written = false) ∧
    ({ done 3 1 with phase := .idle, inputs := [reading0] }.input.readR0 = true ∧
      { done 3 1 with phase := .idle, inputs := [reading0] }.r0Written = true ∧
      { done 3 1 with phase := .idle, inputs := [reading0] }.phase ≠ .done) ∧
    ((withInput reading1).input.readR0 = false ∧ (withInput reading1).input.readR1 = true ∧
      (withInput reading1).r1Written = false) ∧
    ({ done 3 1 with phase := .idle, inputs := [reading1] }.input.readR1 = true ∧
      { done 3 1 with phase := .idle, inputs := [reading1] }.r1Written = true ∧
      { done 3 1 with phase := .idle, inputs := [reading1] }.phase ≠ .done) ∧
    ((done 3 1).phase = .done ∧ (done 3 1).r0Written = true ∧ (done 3 1).r1Written = true) :=
  ⟨⟨rfl, rfl⟩, ⟨rfl, rfl, by decide⟩, ⟨rfl, rfl, rfl⟩, ⟨rfl, rfl, by decide⟩, ⟨rfl, rfl, rfl⟩⟩

theorem witness_OnlyForbiddenReadsStop :
    State.reset.ReadsAllowed ∧ step (withInput reading0) = .fault .readUnwritten := ⟨rfl, rfl⟩

/-- A request in flight that meets the injected fault. -/
def aborting : State := { dividing with inputs := [{ StepInput.quiet with abort := true }] }

theorem witness_FatalAbortHalts :
    aborting.phase = .busy ∧ aborting.ReadsAllowed ∧ aborting.input.rst = false ∧
    aborting.nextInputs.keepsWaiting aborting.input = false ∧ aborting.input.abort = true ∧
    aborting.nextInputs.aborted.phase = .halted ∧ aborting.nextInputs.aborted.ReadsAllowed ∧
    aborting.nextInputs.aborted.input.rst = false := ⟨rfl, rfl, rfl, rfl, rfl, rfl, rfl, rfl⟩

theorem witness_NoExecutionHalts :
    step aborting = .next aborting.nextInputs.aborted ∧ aborting.nextInputs.aborted.phase = .halted ∧
    aborting.phase ≠ .halted := ⟨rfl, rfl, by decide⟩

theorem witness_DecodeHasPriority :
    aborting.phase = .busy ∧ step aborting = .next aborting.nextInputs.aborted ∧
    executeLatched dividing = .next (dividing.completed (udivmod 32 dividing.draws 7 2)) ∧
    decode (busy 0x1030 7 2).op = .error .width := ⟨rfl, rfl, rfl, rfl⟩

theorem witness_PvExactlyOnBrokenPreconditions :
    exec .udivmod32 dividing = .next (dividing.completed (udivmod 32 dividing.draws 7 2)) ∧
    executeLatched (busy 0x1030 7 2) =
      .next ((busy 0x1030 7 2).completed (illegalResponse (busy 0x1030 7 2).draws)) := ⟨rfl, rfl⟩

theorem witness_broken_preconditions :
    BreaksPrecondition .udivmod32 (latched 7 0) ∧ BreaksPrecondition .ctz128 (latched 0 7) ∧
    BreaksPrecondition .cvtF80F128 (latched 0x3FFF0000000000000000 0) ∧ ¬ BreaksPrecondition .udivmod32 (latched 7 2) := by
  refine ⟨.inl ⟨rfl, rfl⟩, .inr (.inl ⟨rfl, rfl⟩), .inr (.inr ⟨rfl, rfl, by decide +kernel⟩), ?_⟩
  rintro (⟨-, h⟩ | ⟨h, -⟩ | ⟨h, -, -⟩)
  · revert h; decide +kernel
  · revert h; decide
  · revert h; decide

theorem witness_StickyBitsFollow :
    executeLatched dividing = .next (dividing.completed (udivmod 32 dividing.draws 7 2)) ∧
    let u := { dividing with status := 0x0D }
    step u = .next (u.nextInputs.completed (udivmod 32 u.nextInputs.draws 7 2)) ∧ u.input.rst = false ∧
    u.pvs = true ∧ u.ills = true := ⟨rfl, rfl, rfl, rfl, rfl⟩

theorem witness_InvKeptByEveryStep :
    State.reset.Inv ∧ step State.reset = .next State.reset := by
  refine ⟨⟨by decide, by decide, by decide, by decide, by decide, rfl, by decide, by decide, by decide⟩, rfl⟩

theorem witness_ResponseDependsOnItsRequest :
    let u := { dividing with r0 := 5, status := 0x0C }
    dividing.op = u.op ∧ dividing.a = u.a ∧ dividing.b = u.b ∧ dividing.drawCount = u.drawCount ∧
    executeLatched u = .next (u.completed (udivmod 32 u.draws 7 2)) := ⟨rfl, rfl, rfl, rfl, rfl⟩

theorem witness_HigherPortBitsIgnored :
    dividing.a.toNat % 2 ^ operandBits .udivmod32 = (0xFFFFFFFF00000007 : Word).toNat % 2 ^ operandBits .udivmod32 ∧
    dividing.b.toNat % 2 ^ operandBits .udivmod32 = (0x100000002 : Word).toNat % 2 ^ operandBits .udivmod32 ∧
    readsB .udivmod32 = true ∧ readsB .clz32 = false := by decide +kernel

theorem witness_ResultsFitTheirWidth :
    hasTwoResults .udiv32 = false ∧
    exec .udiv32 dividing = .next (dividing.completed (udiv 32 dividing.draws 7 2)) := ⟨rfl, rfl⟩

theorem witness_unsigned_divisors :
    (latched 7 2).b.toNat % 2 ^ 32 ≠ 0 ∧ (latched 7 0x100000000).b.toNat % 2 ^ 32 = 0 ∧
    (latched 7 (2 ^ 64 - 1)).b.toNat % 2 ^ 64 ≠ 0 ∧ (latched 7 (2 ^ 64)).b.toNat % 2 ^ 64 = 0 ∧
    (latched 7 (2 ^ 128 - 1)).b.toNat % 2 ^ 128 ≠ 0 ∧ (latched 7 0).b.toNat % 2 ^ 128 = 0 := by decide +kernel

theorem witness_RestoringDivisionIsCorrect : (7 : BitVec 32) ≠ 0 := by decide

theorem witness_signed_divisors :
    signedOf 32 (latched 7 0xFFFFFFFF).b ≠ 0 ∧ signedOf 32 (latched 7 0x100000000).b = 0 ∧
    signedOf 64 (latched 7 (2 ^ 63)).b ≠ 0 ∧ signedOf 64 (latched 7 (2 ^ 64)).b = 0 ∧
    signedOf 128 (latched 7 (2 ^ 127)).b ≠ 0 ∧ signedOf 128 (latched 7 0).b = 0 := by decide +kernel

theorem witness_SignedAdapterTruncates :
    (-2 : BitVec 32) ≠ 0 ∧ ¬ ((7 : BitVec 32) = BitVec.intMin 32 ∧ (-2 : BitVec 32).toInt = -1) := by decide +kernel

theorem witness_SignedOverflowWraps :
    (latched 0x80000000 0xFFFFFFFF).a.setWidth 32 = BitVec.intMin 32 ∧
    (latched 0x80000000 0xFFFFFFFF).b.setWidth 32 = BitVec.allOnes 32 ∧
    (latched (2 ^ 63) (2 ^ 64 - 1)).a.setWidth 64 = BitVec.intMin 64 ∧
    (latched (2 ^ 63) (2 ^ 64 - 1)).b.setWidth 64 = BitVec.allOnes 64 ∧
    (latched (2 ^ 127) (2 ^ 128 - 1)).a = BitVec.intMin 128 ∧
    (latched (2 ^ 127) (2 ^ 128 - 1)).b = BitVec.allOnes 128 := by decide +kernel

theorem witness_zero_counts :
    (latched 1 0).a.toNat % 2 ^ 32 ≠ 0 ∧ (latched (2 ^ 32) 0).a.toNat % 2 ^ 32 = 0 ∧
    (latched (2 ^ 63) 0).a.toNat % 2 ^ 64 ≠ 0 ∧ (latched (2 ^ 64) 0).a.toNat % 2 ^ 64 = 0 ∧
    (latched (2 ^ 127) 0).a.toNat % 2 ^ 128 ≠ 0 ∧ (latched 0 0).a.toNat % 2 ^ 128 = 0 := by decide +kernel

theorem witness_BaseCountsOfZeroAreMasked :
    (0x8000000000000000 : BitVec 64).extractLsb' 32 32 ≠ 0 ∧ (0x8000000000000000 : BitVec 64).extractLsb' 0 32 = 0 ∧
    (1 : BitVec 64).extractLsb' 32 32 = 0 ∧ (1 : BitVec 64).extractLsb' 0 32 ≠ 0 ∧
    (0x80000000000000000000000000000000 : BitVec 128).extractLsb' 64 64 ≠ 0 ∧
    (0x80000000000000000000000000000000 : BitVec 128).extractLsb' 0 64 = 0 ∧
    (1 : BitVec 128).extractLsb' 64 64 = 0 ∧ (1 : BitVec 128).extractLsb' 0 64 ≠ 0 := by decide +kernel

/-- The thresholds of F32: the greatest x that rounds to zero and the least that rounds to infinity, and the values the rule gives
just past each. -/
theorem witness_RoundingThresholds_bounds :
    roundFloat F32 false ⟨1, -150⟩ = floatZero F32 false ∧ roundFloat F32 false ⟨2 ^ 24 + 1, -174⟩ = 0x00000001 ∧
    roundFloat F32 false ⟨2 ^ 25 - 1, 103⟩ = floatInfinity F32 false ∧
    roundFloat F32 false ⟨2 ^ 50 - 2 ^ 25 - 1, 78⟩ = 0x7F7FFFFF := by decide +kernel

theorem witness_RoundingThresholds :
    (0 : ℚ) ≤ 0 ∧ (2 : ℚ) ^ F32.emin * (1 - (2 : ℚ) ^ (-((F32.significandBits : Int) + 1))) ≤
      (2 : ℚ) ^ F32.emin * (1 - (2 : ℚ) ^ (-((F32.significandBits : Int) + 1))) ∧
    (2 : ℚ) ^ F32.emin * (1 - (2 : ℚ) ^ (-((F32.significandBits : Int) + 1))) < (2 : ℚ) ^ F32.emin ∧
    roundRational F32 false 0 ≠ floatInfinity F32 false := by
  refine ⟨le_refl _, le_refl _, ?_, ?_⟩
  · have h1 : (0 : ℚ) < (2 : ℚ) ^ F32.emin := by positivity
    have h2 : (0 : ℚ) < (2 : ℚ) ^ (-((F32.significandBits : Int) + 1)) := by positivity
    nlinarith
  · rw [show roundRational F32 false 0 = floatZero F32 false from if_pos rfl]; decide

/-- The overflow and the zero threshold of F32 are numbers the rule speaks of, and at each only its own clause applies. -/
theorem witness_RoundingThresholds_ends :
    let top : ℚ := (2 - (2 : ℚ) ^ (-((F32.significandBits : Int) + 1))) * (2 : ℚ) ^ F32.emax
    let low : ℚ := (2 : ℚ) ^ (F32.emin - F32.significandBits - 1)
    0 ≤ top ∧ 0 ≤ low ∧ low < top ∧ (2 : ℚ) ^ F32.emin ≤ top ∧
    low < (2 : ℚ) ^ F32.emin * (1 - (2 : ℚ) ^ (-((F32.significandBits : Int) + 1))) := by
  norm_num [F32, FloatFormat.emin, FloatFormat.emax]

theorem witness_GuardRoundStickyAgrees : 1 ≤ 1 := le_refl 1

theorem witness_float_results :
    3 ≤ familyOf .cvtF128F80 ∧ resultFormat .cvtF128F80 = F80 ∧
    exec .cvtF128F80 (latched 0 0) = .next ((latched 0 0).completed
      (floatConvert F128 F80 Config.nanPayloadExact (latched 0 0).draws 0)) ∧
    ((latched 0 0).completed (floatConvert F128 F80 Config.nanPayloadExact (latched 0 0).draws 0)).pv = false :=
  ⟨by decide, by decide, rfl, by decide +kernel⟩

theorem witness_ShortIntegersConvertExactly :
    (integerOf 32 true (0xFFFFFFFF : Word)).natAbs = 1 * 2 ^ 0 ∧ 1 < 2 ^ (F32.significandBits + 1) := by decide +kernel

theorem witness_conversion_classes :
    classify F80 0x3FFF0000000000000000 = .nonCanonical ∧ classify F80 0x7FFFC000000000000001 = .quietNaN ∧
    classify F64 0x7FF0000000000001 = .signallingNaN ∧ classify F64 0xFFF0000000000000 = .infinity ∧
    classify F32 0x80000000 = .zero ∧ classify F32 0x007FFFFF = .subnormal ∧ classify F32 0x00800000 = .normal := by
  decide +kernel

theorem witness_extension_classes :
    (classify F80 0x1).isFinite = true ∧ classify F80 0x1 = .subnormal ∧ classify F32 0x1 = .subnormal := by decide +kernel

theorem witness_multiply_classes :
    (classify F32 0x7F800001).isNaN = true ∧ (classify F32 0x3F800000).isNaN = false ∧
    classify F32 0x7F800000 = .infinity ∧ classify F32 0x0 = .zero ∧ (classify F32 0x0).isFinite = true ∧
    classify F32 0x3F800000 = .normal ∧ classify F32 0x1 = .subnormal ∧ floatSign F32 0x80000001 = true := by decide +kernel

end Sys2Proof.Tests
end

section
/-! PROOFS. Accept, deliver and reset (10_state.md R28, R30, R31): what a step is in each phase, and the results it keeps. -/

namespace Sys2Proof.Machine

/-! ### A step of each phase -/

theorem phaseStep_idle {s : State} (hp : s.phase = .idle) (i : StepInput) :
    phaseStep i s = .next (if i.reqValid then s.accept i else s) := by simp only [phaseStep, hp]

theorem phaseStep_busy {s : State} (hp : s.phase = .busy) (i : StepInput) :
    phaseStep i s =
      if s.keepsWaiting i then .next s.wait else if i.abort then .next s.aborted else executeLatched s := by
  simp only [phaseStep, hp]

theorem phaseStep_done {s : State} (hp : s.phase = .done) (i : StepInput) :
    phaseStep i s = .next (if i.rspReady then s.deliver else s) := by simp only [phaseStep, hp]

theorem phaseStep_halted {s : State} (hp : s.phase = .halted) (i : StepInput) : phaseStep i s = .next s := by
  simp only [phaseStep, hp]

/-- A step with RST = 0 whose reads are allowed does what its phase does. -/
theorem step_of_running {s : State} (hreads : s.ReadsAllowed) (hrst : s.input.rst = false) :
    step s = phaseStep s.input s.nextInputs := by simp [step_of_reads s hreads, hrst]

theorem step_accepts {s : State} (hp : s.phase = .idle) (hreads : s.ReadsAllowed) (hrst : s.input.rst = false)
    (hv : s.input.reqValid = true) : step s = .next (s.nextInputs.accept s.input) := by
  rw [step_of_running hreads hrst, phaseStep_idle (s := s.nextInputs) hp, if_pos hv]

theorem step_idle_without_request {s : State} (hp : s.phase = .idle) (hreads : s.ReadsAllowed)
    (hrst : s.input.rst = false) (hv : s.input.reqValid = false) : step s = .next s.nextInputs := by
  rw [step_of_running hreads hrst, phaseStep_idle (s := s.nextInputs) hp, if_neg (Bool.eq_false_iff.1 hv)]

theorem step_waits {s : State} (hp : s.phase = .busy) (hreads : s.ReadsAllowed) (hrst : s.input.rst = false)
    (hw : s.nextInputs.keepsWaiting s.input = true) : step s = .next s.nextInputs.wait := by
  rw [step_of_running hreads hrst, phaseStep_busy (s := s.nextInputs) hp, if_pos hw]

theorem step_delivers {s : State} (hp : s.phase = .done) (hreads : s.ReadsAllowed) (hrst : s.input.rst = false)
    (hr : s.input.rspReady = true) : step s = .next s.nextInputs.deliver := by
  rw [step_of_running hreads hrst, phaseStep_done (s := s.nextInputs) hp, if_pos hr]

/-! ### The request port outside IDLE -/

@[simp] theorem State.withRequestPort_input (s : State) (v : Bool) (op : Opcode) (a b : Word) :
    (s.withRequestPort v op a b).input = { s.input with reqValid := v, reqOp := op, reqA := a, reqB := b } := rfl

@[simp] theorem State.withRequestPort_nextInputs (s : State) (v : Bool) (op : Opcode) (a b : Word) :
    (s.withRequestPort v op a b).nextInputs = s.nextInputs := rfl

/-- The host's reads are judged without the request port (10_state.md R32). -/
@[simp] theorem State.withRequestPort_hostReads (s : State) (v : Bool) (op : Opcode) (a b : Word) :
    (s.withRequestPort v op a b).hostReads = s.hostReads := rfl

/-- Only IDLE looks at the request port (10_state.md R28). -/
theorem phaseStep_requestPort {s : State} (hp : s.phase ≠ .idle) (i : StepInput) (v : Bool) (op : Opcode) (a b : Word) :
    phaseStep { i with reqValid := v, reqOp := op, reqA := a, reqB := b } s = phaseStep i s := by
  cases hq : s.phase with
  | idle => exact absurd hq hp
  | busy => rw [phaseStep_busy hq, phaseStep_busy hq]; rfl
  | done => rw [phaseStep_done hq, phaseStep_done hq]
  | halted => rw [phaseStep_halted hq, phaseStep_halted hq]

theorem step_withRequestPort {s : State} (hp : s.phase ≠ .idle) (v : Bool) (op : Opcode) (a b : Word) :
    step (s.withRequestPort v op a b) = step s := by
  have hphase := phaseStep_requestPort (s := s.nextInputs) hp s.input v op a b
  simp only [step, State.withRequestPort_hostReads, State.withRequestPort_input, State.withRequestPort_nextInputs, hphase]

/-! ### Steps that neither execute nor reset -/

/-- The state after a step that neither executes nor resets: the input is used up, and at most one of the transitions accept, wait
and deliver is taken (10_state.md R28 to R30). -/
theorem step_without_execution {s t : State} (h : step s = .next t) (hrst : s.input.rst = false)
    (hne : ¬ (s.phase = .busy ∧ s.nextInputs.keepsWaiting s.input = false)) :
    t = s.nextInputs.accept s.input ∨ t = s.nextInputs.wait ∨ t = s.nextInputs.deliver ∨ t = s.nextInputs := by
  obtain ⟨-, ⟨hreset, -⟩ | ⟨-, hphase⟩⟩ := step_cases h
  · rw [hrst] at hreset; contradiction
  obtain ⟨-, -, ht⟩ | ⟨-, -, ht⟩ | ⟨-, -, ht⟩ | ⟨hp, hw, -⟩ | ⟨hp, hw, -⟩ | ⟨-, -, ht⟩ | ⟨-, -, ht⟩ | ⟨-, ht⟩ := hphase
  · exact .inl ht
  · exact .inr (.inr (.inr ht))
  · exact .inr (.inl ht)
  · exact absurd ⟨hp, hw⟩ hne
  · exact absurd ⟨hp, hw⟩ hne
  · exact .inr (.inr (.inl ht))
  · exact .inr (.inr (.inr ht))
  · exact .inr (.inr (.inr ht))

/-- R0, R1, their marks and STATUS change only at an execution or a reset (10_state.md R30). -/
theorem step_keeps_results {s t : State} (h : step s = .next t) (hrst : s.input.rst = false)
    (hne : ¬ (s.phase = .busy ∧ s.nextInputs.keepsWaiting s.input = false)) :
    t.r0 = s.r0 ∧ t.r1 = s.r1 ∧ t.r0Written = s.r0Written ∧ t.r1Written = s.r1Written ∧ t.status = s.status := by
  obtain rfl | rfl | rfl | rfl := step_without_execution h hrst hne <;> simp

/-! ### The statements -/

/-- Settles O8: delivery and waiting are the named transitions of their phases; every other step that neither executes nor resets
is one of `step_without_execution`, none of which writes a result or STATUS. -/
theorem deliverKeepsResults : Obligations.DeliverKeepsResults :=
  ⟨fun _ hp hreads hrst hr => step_delivers hp hreads hrst hr,
   fun _ hp hreads hrst hw => step_waits hp hreads hrst hw,
   fun _ _ h hrst hne => step_keeps_results h hrst hne⟩

/-- Settles O7: in IDLE the step is the accept or uses up the input only; no other phase looks at the request port. -/
theorem acceptOnlyInIdle : Obligations.AcceptOnlyInIdle :=
  ⟨fun _ hp hreads hrst hv => step_accepts hp hreads hrst hv,
   fun _ hp hreads hrst hv => step_idle_without_request hp hreads hrst hv,
   fun _ v op a b hp => step_withRequestPort hp v op a b⟩

/-- Settles O13: the reset state is idle, so its first step accepts whatever request stands at the port. -/
theorem resetStateIsReady : Obligations.ResetStateIsReady := by
  refine ⟨rfl, rfl, rfl, rfl, rfl, rfl, fun i l hrst h0 h1 hv => ?_⟩
  have hreads : State.ReadsAllowed { State.reset with inputs := i :: l } := hostReads_of_none _ h0 h1
  exact ⟨_, step_accepts rfl hreads hrst hv, rfl, rfl, rfl, rfl, rfl⟩

end Sys2Proof.Machine
end

section
/-! PROOFS. The decoder (30_encoding.md R44 to R50): it inverts the opcode map, and the legal words are the well-formed ones. -/

namespace Sys2Proof

/-! ### The fields of a word -/

/-- The four fields are the whole word (30_encoding.md R44). -/
@[simp] theorem pack_unpack (w : Opcode) : pack (unpack w) = w := by
  simp only [pack, unpack]
  rw [BitVec.extractLsb'_append_extractLsb'_eq_extractLsb' (show 12 = 8 + 4 from rfl),
    BitVec.extractLsb'_append_extractLsb'_eq_extractLsb' (show 8 = 4 + 4 from rfl),
    BitVec.extractLsb'_append_extractLsb'_eq_extractLsb' (show 4 = 0 + 4 from rfl)]
  exact BitVec.extractLsb'_eq_self

open Laws.WordRoundTrip in
/-- The word of every operation has legal fields and decodes to the operation (30_encoding.md R50, R62). -/
theorem wordRoundTrip (i : Instr) : Laws.WordRoundTrip.Statement i := by
  cases i
  exacts [udivmod32, udivmod64, udivmod128, udiv32, udiv64, udiv128, umod32, umod64, umod128,
    sdivmod32, sdivmod64, sdivmod128, sdiv32, sdiv64, sdiv128, smod32, smod64, smod128,
    clz32, clz64, clz128, ctz32, ctz64, ctz128,
    cvtS32F32, cvtS32F64, cvtS32F80, cvtS32F128, cvtS64F32, cvtS64F64, cvtS64F80, cvtS64F128,
    cvtS128F32, cvtS128F64, cvtS128F80, cvtS128F128, cvtU32F32, cvtU32F64, cvtU32F80, cvtU32F128,
    cvtU64F32, cvtU64F64, cvtU64F80, cvtU64F128, cvtU128F32, cvtU128F64, cvtU128F80, cvtU128F128,
    cvtF32F64, cvtF32F80, cvtF32F128, cvtF64F80, cvtF64F128, cvtF80F128,
    cvtF64F32, cvtF80F32, cvtF80F64, cvtF128F32, cvtF128F64, cvtF128F80, fmulF32, fmulF64, fmulF128]

theorem opWordOf_wellFormed (i : Instr) : (opWordOf i).wellFormed = true := (wordRoundTrip i).1

@[simp] theorem decode_encode (i : Instr) : decode (encode i) = .ok i := (wordRoundTrip i).2.2

theorem encode_injective : Function.Injective encode := fun i j h =>
  Except.ok.inj (by rw [← decode_encode i, h, decode_encode])

/-! ### What each part of the decoder accepts -/

/-- The code of a width (30_encoding.md R47). -/
def widthCode : Width → BitVec 4
  | .w32 => 0
  | .w64 => 1
  | .w128 => 2

/-- The code of a format (30_encoding.md R48). -/
def formatCode : Fmt → BitVec 4
  | .f32 => 0
  | .f64 => 1
  | .f80 => 2
  | .f128 => 3

theorem code_of_toNat {c : BitVec 4} {k : Nat} (hc : c.toNat = k) : c = BitVec.ofNat 4 k := by
  rw [← hc, BitVec.ofNat_toNat, BitVec.setWidth_eq]

/-- A width code is accepted as the width it stands for (30_encoding.md R47). -/
theorem eq_widthCode_of_widthOf {c : BitVec 4} {n : Width} (h : widthOf c = .ok n) : c = widthCode n := by
  unfold widthOf at h
  split at h <;> cases h <;> exact code_of_toNat ‹_›

/-- A format code is accepted as the format it stands for (30_encoding.md R48). -/
theorem eq_formatCode_of_formatOf {c : BitVec 4} {f : Fmt} (h : formatOf c = .ok f) : c = formatCode f := by
  unfold formatOf at h
  split at h <;> cases h <;> exact code_of_toNat ‹_›

theorem requireNoDst_eq_ok {c : BitVec 4} {i j : Instr} (h : requireNoDst c i = .ok j) : c = 0 ∧ i = j := by
  unfold requireNoDst at h
  split at h <;> cases h
  exact ⟨‹_›, rfl⟩

theorem requireKindZero_eq_ok {k : BitVec 4} {r : Except Reserved Instr} {i : Instr}
    (h : requireKindZero k r = .ok i) : k = 0 ∧ r = .ok i := by
  unfold requireKindZero at h
  split at h
  · exact ⟨‹_›, h⟩
  · cases h

theorem opWordOf_divisionOf {k : BitVec 4} {n : Width} {i : Instr} (h : divisionOf k n = .ok i) :
    opWordOf i = ⟨1, k, widthCode n, 0⟩ := by
  unfold divisionOf at h
  split at h <;> cases h <;> rw [code_of_toNat ‹k.toNat = _›] <;> rfl

theorem opWordOf_zeroCountOf {k : BitVec 4} {n : Width} {i : Instr} (h : zeroCountOf k n = .ok i) :
    opWordOf i = ⟨2, k, widthCode n, 0⟩ := by
  unfold zeroCountOf at h
  split at h <;> cases h <;> rw [code_of_toNat ‹k.toNat = _›] <;> rfl

theorem opWordOf_intToFloatOf {k : BitVec 4} {n : Width} {f : Fmt} {i : Instr} (h : intToFloatOf k n f = .ok i) :
    opWordOf i = ⟨3, k, widthCode n, formatCode f⟩ := by
  unfold intToFloatOf at h
  split at h <;> cases h <;> rw [code_of_toNat ‹k.toNat = _›] <;> rfl

theorem opWordOf_floatConvertOf {f g : Fmt} {i : Instr} (h : floatConvertOf f g = .ok i) :
    opWordOf i = ⟨4, 0, formatCode f, formatCode g⟩ := by
  cases f <;> cases g <;> cases h <;> rfl

theorem opWordOf_floatMultiplyOf {f : Fmt} {i : Instr} (h : floatMultiplyOf f = .ok i) :
    opWordOf i = ⟨5, 0, formatCode f, 0⟩ := by
  cases f <;> cases h <;> rfl

/-! ### Decoding inverts the opcode map -/

/-- A computation of two parts answers when both do. -/
theorem bind_eq_ok {α β : Type} {x : Except Reserved α} {f : α → Except Reserved β} {r : β} (h : x.bind f = .ok r) :
    ∃ a, x = .ok a ∧ f a = .ok r := by
  cases x with
  | error e => cases h
  | ok a => exact ⟨a, rfl, h⟩

theorem OpWord.eq_mk {o : OpWord} {fam kind src dst : BitVec 4} (hfam : o.fam = fam) (hkind : o.kind = kind)
    (hsrc : o.src = src) (hdst : o.dst = dst) : o = ⟨fam, kind, src, dst⟩ := by
  subst hfam hkind hsrc hdst; rfl

/-- The fields that decode to an operation are its row of the opcode map (30_encoding.md R50). -/
theorem eq_opWordOf_of_decodeFields {o : OpWord} {i : Instr} (h : decodeFields o = .ok i) : o = opWordOf i := by
  unfold decodeFields at h
  split at h
  case h_1 hfam =>
    obtain ⟨n, hn, h⟩ := bind_eq_ok h
    obtain ⟨j, hj, h⟩ := bind_eq_ok h
    obtain ⟨hdst, rfl⟩ := requireNoDst_eq_ok h
    rw [opWordOf_divisionOf hj]
    exact OpWord.eq_mk (code_of_toNat hfam) rfl (eq_widthCode_of_widthOf hn) hdst
  case h_2 hfam =>
    obtain ⟨n, hn, h⟩ := bind_eq_ok h
    obtain ⟨j, hj, h⟩ := bind_eq_ok h
    obtain ⟨hdst, rfl⟩ := requireNoDst_eq_ok h
    rw [opWordOf_zeroCountOf hj]
    exact OpWord.eq_mk (code_of_toNat hfam) rfl (eq_widthCode_of_widthOf hn) hdst
  case h_3 hfam =>
    obtain ⟨n, hn, h⟩ := bind_eq_ok h
    obtain ⟨f, hf, h⟩ := bind_eq_ok h
    rw [opWordOf_intToFloatOf h]
    exact OpWord.eq_mk (code_of_toNat hfam) rfl (eq_widthCode_of_widthOf hn) (eq_formatCode_of_formatOf hf)
  case h_4 hfam =>
    obtain ⟨hkind, h⟩ := requireKindZero_eq_ok h
    obtain ⟨f, hf, h⟩ := bind_eq_ok h
    obtain ⟨g, hg, h⟩ := bind_eq_ok h
    rw [opWordOf_floatConvertOf h]
    exact OpWord.eq_mk (code_of_toNat hfam) hkind (eq_formatCode_of_formatOf hf) (eq_formatCode_of_formatOf hg)
  case h_5 hfam =>
    obtain ⟨hkind, h⟩ := requireKindZero_eq_ok h
    obtain ⟨f, hf, h⟩ := bind_eq_ok h
    obtain ⟨j, hj, h⟩ := bind_eq_ok h
    obtain ⟨hdst, rfl⟩ := requireNoDst_eq_ok h
    rw [opWordOf_floatMultiplyOf hj]
    exact OpWord.eq_mk (code_of_toNat hfam) hkind (eq_formatCode_of_formatOf hf) hdst
  case h_6 => cases h

theorem unpack_of_decode {w : Opcode} {i : Instr} (h : decode w = .ok i) : unpack w = opWordOf i :=
  eq_opWordOf_of_decodeFields h

/-- Decode is exact match with the opcode map (30_encoding.md R50). -/
theorem decode_eq_ok_iff (w : Opcode) (i : Instr) : decode w = .ok i ↔ w = encode i := by
  constructor
  · intro h
    rw [encode, ← unpack_of_decode h, pack_unpack]
  · rintro rfl
    exact decode_encode i

/-! ### The 63 legal words -/

/-- The rows of the opcode map, in its order (30_encoding.md R62). -/
def allInstrs : List Instr :=
  [.udivmod32, .udivmod64, .udivmod128, .udiv32, .udiv64, .udiv128, .umod32, .umod64, .umod128,
   .sdivmod32, .sdivmod64, .sdivmod128, .sdiv32, .sdiv64, .sdiv128, .smod32, .smod64, .smod128,
   .clz32, .clz64, .clz128, .ctz32, .ctz64, .ctz128,
   .cvtS32F32, .cvtS32F64, .cvtS32F80, .cvtS32F128, .cvtS64F32, .cvtS64F64, .cvtS64F80, .cvtS64F128,
   .cvtS128F32, .cvtS128F64, .cvtS128F80, .cvtS128F128, .cvtU32F32, .cvtU32F64, .cvtU32F80, .cvtU32F128,
   .cvtU64F32, .cvtU64F64, .cvtU64F80, .cvtU64F128, .cvtU128F32, .cvtU128F64, .cvtU128F80, .cvtU128F128,
   .cvtF32F64, .cvtF32F80, .cvtF32F128, .cvtF64F80, .cvtF64F128, .cvtF80F128,
   .cvtF64F32, .cvtF80F32, .cvtF80F64, .cvtF128F32, .cvtF128F64, .cvtF128F80, .fmulF32, .fmulF64, .fmulF128]

theorem mem_allInstrs (i : Instr) : i ∈ allInstrs := by cases i <;> decide

theorem allInstrs_nodup : allInstrs.Nodup := by decide

theorem mem_legalWords_iff (w : Opcode) : w ∈ allInstrs.map encode ↔ ∃ i, decode w = .ok i := by
  simp only [List.mem_map, mem_allInstrs, true_and, decode_eq_ok_iff, eq_comm (a := w)]

/-! ### Legal fields -/

/-- The fields each family allows (30_encoding.md R45 to R49). -/
theorem fields_of_wellFormed {o : OpWord} (h : o.wellFormed = true) :
    (o.fam = 1 ∧ o.kind ∈ ([0x0, 0x1, 0x2, 0x8, 0x9, 0xA] : List (BitVec 4)) ∧ o.src.toNat ≤ 2 ∧ o.dst = 0) ∨
    (o.fam = 2 ∧ o.kind ∈ ([0x0, 0x1] : List (BitVec 4)) ∧ o.src.toNat ≤ 2 ∧ o.dst = 0) ∨
    (o.fam = 3 ∧ o.kind ∈ ([0x0, 0x8] : List (BitVec 4)) ∧ o.src.toNat ≤ 2 ∧ o.dst.toNat ≤ 3) ∨
    (o.fam = 4 ∧ o.kind = 0 ∧ o.src.toNat ≤ 3 ∧ o.dst.toNat ≤ 3 ∧ o.src ≠ o.dst) ∨
    (o.fam = 5 ∧ o.kind = 0 ∧ o.src ∈ ([0, 1, 3] : List (BitVec 4)) ∧ o.dst = 0) := by
  obtain ⟨fam, kind, src, dst⟩ := o
  simp only [OpWord.wellFormed, Bool.and_eq_true] at h
  obtain ⟨⟨⟨⟨hfam, hkind⟩, hsrc⟩, hdst⟩, hne⟩ := h
  have hfam : fam ∈ ([1, 2, 3, 4, 5] : List (BitVec 4)) := by
    simpa [OpWord.familyOk, or_assoc] using hfam
  fin_cases hfam <;> simp_all [OpWord.kindOk, OpWord.srcOk, OpWord.dstOk, OpWord.formatsDiffer, or_assoc]

theorem exists_widthCode {c : BitVec 4} (h : c.toNat ≤ 2) : ∃ n, c = widthCode n := by
  obtain h | h | h : c.toNat = 0 ∨ c.toNat = 1 ∨ c.toNat = 2 := by omega
  exacts [⟨.w32, code_of_toNat h⟩, ⟨.w64, code_of_toNat h⟩, ⟨.w128, code_of_toNat h⟩]

theorem exists_formatCode {c : BitVec 4} (h : c.toNat ≤ 3) : ∃ f, c = formatCode f := by
  obtain h | h | h | h : c.toNat = 0 ∨ c.toNat = 1 ∨ c.toNat = 2 ∨ c.toNat = 3 := by omega
  exacts [⟨.f32, code_of_toNat h⟩, ⟨.f64, code_of_toNat h⟩, ⟨.f80, code_of_toNat h⟩, ⟨.f128, code_of_toNat h⟩]

theorem floatConvertOf_of_ne {f g : Fmt} (h : f ≠ g) : ∃ i, floatConvertOf f g = .ok i := by
  cases f <;> cases g <;> simp_all [floatConvertOf]

/-- Fields a family allows name an operation (30_encoding.md R49). -/
theorem decodeFields_of_wellFormed {o : OpWord} (h : o.wellFormed = true) : ∃ i, decodeFields o = .ok i := by
  obtain ⟨fam, kind, src, dst⟩ := o
  obtain ⟨rfl, hkind, hsrc, rfl⟩ | ⟨rfl, hkind, hsrc, rfl⟩ | ⟨rfl, hkind, hsrc, hdst⟩ | ⟨rfl, rfl, hsrc, hdst, hne⟩ |
    ⟨rfl, rfl, hsrc, rfl⟩ := fields_of_wellFormed h
  · obtain ⟨n, rfl⟩ := exists_widthCode hsrc
    fin_cases hkind <;> cases n <;> exact ⟨_, rfl⟩
  · obtain ⟨n, rfl⟩ := exists_widthCode hsrc
    fin_cases hkind <;> cases n <;> exact ⟨_, rfl⟩
  · obtain ⟨n, rfl⟩ := exists_widthCode hsrc
    obtain ⟨f, rfl⟩ := exists_formatCode hdst
    fin_cases hkind <;> cases n <;> cases f <;> exact ⟨_, rfl⟩
  · obtain ⟨f, rfl⟩ := exists_formatCode hsrc
    obtain ⟨g, rfl⟩ := exists_formatCode hdst
    obtain ⟨i, hi⟩ := floatConvertOf_of_ne (f := f) (g := g) fun hfg => hne (congrArg formatCode hfg)
    cases f <;> cases g <;> exact ⟨i, hi⟩
  · fin_cases hsrc <;> exact ⟨_, rfl⟩

/-- A word is legal exactly when its fields are (30_encoding.md R49). -/
theorem decode_ok_iff_wellFormed (w : Opcode) : (∃ i, decode w = .ok i) ↔ (unpack w).wellFormed = true := by
  constructor
  · rintro ⟨i, hi⟩
    rw [unpack_of_decode hi]
    exact opWordOf_wellFormed i
  · exact decodeFields_of_wellFormed

namespace Machine

/-! ### Reserved words -/

/-- A request whose word is no word of the opcode map is illegal (60_exceptions.md R166). -/
theorem executeLatched_of_reserved {s : State} (h : ∀ i, s.op ≠ encode i) : executeLatched s = raiseIllegal s := by
  cases hd : decode s.op with
  | ok i => exact absurd ((decode_eq_ok_iff _ _).1 hd) (h i)
  | error e => simp only [executeLatched, hd]

/-! ### The statements -/

/-- Settles O2: the fields that decode are those of the opcode map's row, and the word of every row decodes to it. -/
theorem decodeIsTheOpcodeMap : Obligations.DecodeIsTheOpcodeMap :=
  ⟨decode_eq_ok_iff,
   ⟨allInstrs.map encode, allInstrs_nodup.map encode_injective, rfl, mem_legalWords_iff⟩,
   fun _ => executeLatched_of_reserved⟩

/-- Settles O3: the rows of the opcode map have legal fields, and legal fields name an operation, family by family. -/
theorem legalWordsHaveLegalFields : Obligations.LegalWordsHaveLegalFields := decode_ok_iff_wellFormed

end Machine

end Sys2Proof
end

section
/-! PROOFS. What an operation computes, said once by the fields of its word, and that it reads only the operand bits of its ports
(30_encoding.md R52, R53). -/

namespace Sys2Proof.Machine

/-! ### The meaning of an operation -/

/-- The format of a float operand (30_encoding.md R48). -/
def operandFormat (i : Instr) : FloatFormat := formatByCode (opWordOf i).src.toNat

/-- `f` is the response of operation `i` to draws, A and B: an operation of the family of `i`, at the width and formats in the word
of `i` (30_encoding.md R45 to R49). -/
inductive MeaningOf (i : Instr) : (Draw → Word → Word → Response) → Prop where
  | udivmod (hfam : familyOf i = 1) (htwo : hasTwoResults i = true) : MeaningOf i (udivmod (operandBits i))
  | udiv (hfam : familyOf i = 1) : MeaningOf i (udiv (operandBits i))
  | umod (hfam : familyOf i = 1) : MeaningOf i (umod (operandBits i))
  | sdivmod (hfam : familyOf i = 1) (htwo : hasTwoResults i = true) : MeaningOf i (sdivmod (operandBits i))
  | sdiv (hfam : familyOf i = 1) : MeaningOf i (sdiv (operandBits i))
  | smod (hfam : familyOf i = 1) : MeaningOf i (smod (operandBits i))
  | zeroCount (hfam : familyOf i = 2) (count : CountOfZero → BitVec (operandBits i) → BitVec 32) :
      MeaningOf i (fun draw A _ => zeroCount (operandBits i) count draw A)
  | intToFloat (hfam : familyOf i = 3) (signed : Bool) :
      MeaningOf i (fun _ A _ => intToFloat (operandBits i) (resultFormat i) signed A)
  | floatConvert (hfam : familyOf i = 4) :
      MeaningOf i (fun draw A _ => floatConvert (operandFormat i) (resultFormat i) Config.nanPayloadExact draw A)
  | floatMultiply (hfam : familyOf i = 5) :
      MeaningOf i (floatMultiply (operandFormat i) Config.nanPayloadExact)

/-- Every operation completes with a response computed from the draws and the latches alone (10_state.md R29 (a)). -/
theorem exec_meaning (i : Instr) :
    ∃ f, MeaningOf i f ∧ ∀ s, exec i s = .next (s.completed (f s.draws s.a s.b)) := by
  cases i with
  | udivmod32 | udivmod64 | udivmod128 => exact ⟨_, .udivmod rfl rfl, fun _ => rfl⟩
  | udiv32 | udiv64 | udiv128 => exact ⟨_, .udiv rfl, fun _ => rfl⟩
  | umod32 | umod64 | umod128 => exact ⟨_, .umod rfl, fun _ => rfl⟩
  | sdivmod32 | sdivmod64 | sdivmod128 => exact ⟨_, .sdivmod rfl rfl, fun _ => rfl⟩
  | sdiv32 | sdiv64 | sdiv128 => exact ⟨_, .sdiv rfl, fun _ => rfl⟩
  | smod32 | smod64 | smod128 => exact ⟨_, .smod rfl, fun _ => rfl⟩
  | clz32 => exact ⟨_, .zeroCount (i := .clz32) rfl fun u => clz32 (u 0), fun _ => rfl⟩
  | clz64 => exact ⟨_, .zeroCount (i := .clz64) rfl clz64, fun _ => rfl⟩
  | clz128 => exact ⟨_, .zeroCount (i := .clz128) rfl clz128, fun _ => rfl⟩
  | ctz32 => exact ⟨_, .zeroCount (i := .ctz32) rfl fun u => ctz32 (u 0), fun _ => rfl⟩
  | ctz64 => exact ⟨_, .zeroCount (i := .ctz64) rfl ctz64, fun _ => rfl⟩
  | ctz128 => exact ⟨_, .zeroCount (i := .ctz128) rfl ctz128, fun _ => rfl⟩
  | cvtS32F32 | cvtS32F64 | cvtS32F80 | cvtS32F128 | cvtS64F32 | cvtS64F64 | cvtS64F80 | cvtS64F128
  | cvtS128F32 | cvtS128F64 | cvtS128F80 | cvtS128F128 => exact ⟨_, .intToFloat rfl true, fun _ => rfl⟩
  | cvtU32F32 | cvtU32F64 | cvtU32F80 | cvtU32F128 | cvtU64F32 | cvtU64F64 | cvtU64F80 | cvtU64F128
  | cvtU128F32 | cvtU128F64 | cvtU128F80 | cvtU128F128 => exact ⟨_, .intToFloat rfl false, fun _ => rfl⟩
  | cvtF32F64 | cvtF32F80 | cvtF32F128 | cvtF64F80 | cvtF64F128 | cvtF80F128
  | cvtF64F32 | cvtF80F32 | cvtF80F64 | cvtF128F32 | cvtF128F64 | cvtF128F80 =>
    exact ⟨_, .floatConvert rfl, fun _ => rfl⟩
  | fmulF32 | fmulF64 | fmulF128 => exact ⟨_, .floatMultiply rfl, fun _ => rfl⟩

theorem formatByCode_valid (c : Nat) : (formatByCode c).Valid :=
  match c with
  | 0 => F32_valid
  | 1 => F64_valid
  | 2 => F80_valid
  | 3 => F128_valid
  | _ + 4 => F32_valid

theorem operandFormat_valid (i : Instr) : (operandFormat i).Valid := formatByCode_valid _

/-- A float operation reads the bits of its operand's format (30_encoding.md R53). -/
theorem operandBits_of_float {i : Instr} (h : 4 ≤ familyOf i) : operandBits i = (operandFormat i).totalBits :=
  if_neg (by omega)

theorem readsB_of_division {i : Instr} (h : familyOf i = 1) : readsB i = true := by simp [readsB, h]

theorem readsB_of_multiply {i : Instr} (h : familyOf i = 5) : readsB i = true := by simp [readsB, h]

/-! ### Ports that agree in their low bits -/

section
variable {n : Nat} {p q : Word} (h : p.toNat % 2 ^ n = q.toNat % 2 ^ n)
include h

theorem getLsbD_congr {k : Nat} (hk : k < n) : p.getLsbD k = q.getLsbD k := by
  have := congrArg (Nat.testBit · k) h
  simpa [Nat.testBit_mod_two_pow, hk, BitVec.getLsbD] using this

theorem extractLsb'_congr {start len : Nat} (hk : start + len ≤ n) :
    p.extractLsb' start len = q.extractLsb' start len := by
  apply BitVec.eq_of_getLsbD_eq
  intro k hlt
  simp [hlt, getLsbD_congr h (k := start + k) (by omega)]

theorem floatOperand_congr : floatOperand n p = floatOperand n q := by
  have hlow : p.setWidth n = q.setWidth n := intOperand_congr h
  rw [floatOperand, floatOperand, hlow]

end

/-! ### Floats that agree in the bits of their format -/

theorem quieted_congr {F : FloatFormat} {v w : Word} (h : v.toNat % 2 ^ F.totalBits = w.toNat % 2 ^ F.totalBits) :
    quieted F v = quieted F w := by
  rw [quieted, quieted, floatOperand_congr h]

section
variable {F : FloatFormat} (hF : F.Valid) {v w : Word} (h : v.toNat % 2 ^ F.totalBits = w.toNat % 2 ^ F.totalBits)
include hF h

theorem floatSign_congr : floatSign F v = floatSign F w := getLsbD_congr h (by have := hF.total; omega)

theorem exponentField_congr : exponentField F v = exponentField F w :=
  congrArg BitVec.toNat (extractLsb'_congr h (by have := hF.total; omega))

theorem fractionField_congr : fractionField F v = fractionField F w :=
  congrArg BitVec.toNat (extractLsb'_congr h (by have := hF.total; have := significandBits_le_storedBits F; omega))

theorem explicitBit_congr : explicitBit F v = explicitBit F w :=
  getLsbD_congr h (by have := hF.total; have := significandBits_le_storedBits F; omega)

theorem classify_congr : classify F v = classify F w := by
  simp only [classify, exponentField_congr hF h, fractionField_congr hF h, explicitBit_congr hF h]

theorem magnitude_congr : magnitude F v = magnitude F w := by
  simp only [magnitude, exponentField_congr hF h, fractionField_congr hF h]

theorem convertNaN_congr (D : FloatFormat) (exact : Bool) (draw : Draw) :
    convertNaN F D exact draw v = convertNaN F D exact draw w := by
  simp only [convertNaN, floatSign_congr hF h, fractionField_congr hF h]

theorem floatConvert_congr (D : FloatFormat) (exact : Bool) (draw : Draw) :
    floatConvert F D exact draw v = floatConvert F D exact draw w := by
  simp only [floatConvert, classify_congr hF h, convertNaN_congr hF h, floatSign_congr hF h, magnitude_congr hF h]

theorem floatMultiply_congr {v' w' : Word} (h' : v'.toNat % 2 ^ F.totalBits = w'.toNat % 2 ^ F.totalBits)
    (exact : Bool) (draw : Draw) : floatMultiply F exact draw v v' = floatMultiply F exact draw w w' := by
  simp only [floatMultiply, multiplyFloat, classify_congr hF h, classify_congr hF h', floatSign_congr hF h,
    floatSign_congr hF h', quieted_congr h, quieted_congr h', magnitude_congr hF h, magnitude_congr hF h']

end

/-! ### The statement -/

/-- An operation reads of A and B the low bits its word names, and none of B where it has one operand (30_encoding.md R52, R53). -/
theorem meaning_congr {i : Instr} {f : Draw → Word → Word → Response} (hf : MeaningOf i f) {A A' B B' : Word}
    (hA : A.toNat % 2 ^ operandBits i = A'.toNat % 2 ^ operandBits i)
    (hB : readsB i = true → B.toNat % 2 ^ operandBits i = B'.toNat % 2 ^ operandBits i) (draw : Draw) :
    f draw A B = f draw A' B' := by
  have hintA := intOperand_congr hA
  cases hf with
  | udivmod hfam => simp only [udivmod, hintA, intOperand_congr (hB (readsB_of_division hfam))]
  | udiv hfam => simp only [udiv, hintA, intOperand_congr (hB (readsB_of_division hfam))]
  | umod hfam => simp only [umod, hintA, intOperand_congr (hB (readsB_of_division hfam))]
  | sdivmod hfam => simp only [sdivmod, hintA, intOperand_congr (hB (readsB_of_division hfam))]
  | sdiv hfam => simp only [sdiv, hintA, intOperand_congr (hB (readsB_of_division hfam))]
  | smod hfam => simp only [smod, hintA, intOperand_congr (hB (readsB_of_division hfam))]
  | zeroCount => simp only [zeroCount, hintA]
  | intToFloat => simp only [intToFloat, hintA]
  | floatConvert hfam =>
    rw [operandBits_of_float (by omega)] at hA
    exact floatConvert_congr (operandFormat_valid i) hA _ _ _
  | floatMultiply hfam =>
    replace hB := hB (readsB_of_multiply hfam)
    rw [operandBits_of_float (by omega)] at hA hB
    exact floatMultiply_congr (operandFormat_valid i) hA hB _ _

/-- Settles O24: both executions complete with one meaning, which reads the operand bits alone, from the same draws and STATUS. -/
theorem higherPortBitsIgnored : Obligations.HigherPortBitsIgnored := by
  intro i s t u a b hA hB ht hu
  obtain ⟨f, hf, hexec⟩ := exec_meaning i
  rw [hexec] at ht hu
  cases ht
  cases hu
  have hx : f s.draws s.a s.b = f s.draws a b := meaning_congr hf hA hB s.draws
  exact ⟨congrArg Response.r0 hx, congrArg Response.r1 hx,
    congrArg (fun x : Response => statusAfter s.status x.pv x.ill) hx⟩

end Sys2Proof.Machine
end

section
/-! PROOFS. Every result fits the width of its operation (30_encoding.md R54): the engines' results by their type, the float
results because sign, exponent and significand each stay within their field (43_float_common.md R103). -/

namespace Sys2Proof.Machine

/-! ### Composed encodings -/

section
variable {F : FloatFormat} (hF : F.Valid)
include hF

/-- An encoding of legal fields fits its format (30_encoding.md R55, R56). -/
theorem encodeFloat_lt (s : Bool) {e sig : Nat} (he : e < 2 ^ F.exponentBits) (hs : sig < 2 ^ F.storedBits) :
    (encodeFloat F s e sig).toNat < 2 ^ F.totalBits := by
  obtain ⟨hn, hlow⟩ := encodeFloat_toNat hF (s := s) he hs
  have htop : 2 ^ F.totalBits = 2 * 2 ^ (F.totalBits - 1) := by
    rw [← pow_succ', Nat.sub_add_cancel (by have := hF.total; omega)]
  rw [hn, htop]
  cases s <;> simp <;> omega

theorem floatZero_lt (s : Bool) : (floatZero F s).toNat < 2 ^ F.totalBits :=
  encodeFloat_lt hF s (by positivity) (by positivity)

theorem floatNaN_lt (s : Bool) {f : Nat} (hf : f < 2 ^ F.significandBits) : (floatNaN F s f).toNat < 2 ^ F.totalBits :=
  encodeFloat_lt hF s (emaxField_lt F) (integerBit_add_lt F hf)

theorem floatInfinity_lt (s : Bool) : (floatInfinity F s).toNat < 2 ^ F.totalBits :=
  floatNaN_lt hF s (f := 0) (by positivity)

theorem freeQuietNaN_lt (s : Bool) (p : Word) : (freeQuietNaN F s p).toNat < 2 ^ F.totalBits :=
  floatNaN_lt hF s (freeFraction_bounds hF p.toNat).2

theorem quietBit_lt : F.quietBit < 2 ^ F.significandBits :=
  Nat.pow_lt_pow_right (by decide) (by have := hF.fraction; omega)

/-! ### Rounded results -/

/-- The exponent field of a finite result is below that of infinity (00_scope.md R6; 43_float_common.md R103). -/
theorem finiteExponent_lt {k : Int} (hk : k ≤ F.emax) : (k + F.bias).toNat < 2 ^ F.exponentBits := by
  have hexp : 2 ^ F.exponentBits = 2 * 2 ^ (F.exponentBits - 1) := by
    rw [← pow_succ', Nat.sub_add_cancel (by have := hF.exponent; omega)]
  have hbias := hF.bias
  have hpos : 0 < 2 ^ (F.exponentBits - 1) := by positivity
  simp only [FloatFormat.emax] at hk
  omega

/-- A significand of at most T + 1 bits, the next power of two included, is finished within the format (43_float_common.md R103). -/
theorem finishRound_lt (s : Bool) (k : Int) {m : Nat} (hm : m ≤ 2 ^ (F.significandBits + 1)) :
    (finishRound F s k m).toNat < 2 ^ F.totalBits := by
  have hp : 2 ^ (F.significandBits + 1) = 2 * 2 ^ F.significandBits := pow_succ' ..
  have hstored : 2 ^ F.significandBits ≤ 2 ^ F.storedBits :=
    Nat.pow_le_pow_right (by decide) (significandBits_le_storedBits F)
  simp only [finishRound]
  generalize hm' : (if m = 2 ^ (F.significandBits + 1) then 2 ^ F.significandBits else m) = m'
  generalize (if m = 2 ^ (F.significandBits + 1) then k + 1 else k) = k'
  have hlt : m' < 2 ^ (F.significandBits + 1) := by
    have hpos : 0 < 2 ^ F.significandBits := by positivity
    split_ifs at hm' <;> omega
  split
  · exact floatInfinity_lt hF s
  · split
    · exact encodeFloat_lt hF s (finiteExponent_lt hF (by omega)) (integerBit_add_lt F (by omega))
    · exact encodeFloat_lt hF s (by positivity) (by omega)

end

/-- The rounded significand has at most T + 1 bits, or is the next power of two (43_float_common.md R103). -/
theorem roundedSignificand_le (F : FloatFormat) (x : Magnitude) :
    roundedSignificand F (quantumExponent F x) x ≤ 2 ^ (F.significandBits + 1) := by
  have hk : (Nat.log2 x.coeff : Int) + x.exp ≤ quantumExponent F x := le_max_left _ _
  have hc : x.coeff < 2 ^ (Nat.log2 x.coeff + 1) := Nat.lt_log2_self
  simp only [roundedSignificand]
  split
  case isTrue hup =>
    generalize hu : (x.exp - (quantumExponent F x - F.significandBits)).toNat = u
    calc x.coeff * 2 ^ u ≤ 2 ^ (Nat.log2 x.coeff + 1) * 2 ^ u := Nat.mul_le_mul_right _ hc.le
      _ = 2 ^ (Nat.log2 x.coeff + 1 + u) := (pow_add ..).symm
      _ ≤ 2 ^ (F.significandBits + 1) := Nat.pow_le_pow_right (by decide) (by omega)
  case isFalse hup =>
    generalize hd : (-(x.exp - (quantumExponent F x - F.significandBits))).toNat = d
    have hq : x.coeff / 2 ^ d < 2 ^ (F.significandBits + 1) := by
      rw [Nat.div_lt_iff_lt_mul (by positivity), ← pow_add]
      exact hc.trans_le (Nat.pow_le_pow_right (by decide) (by omega))
    exact (roundShift_bounds x.coeff d).2.trans hq

section
variable {F : FloatFormat} (hF : F.Valid)
include hF

theorem roundFloat_lt (s : Bool) (x : Magnitude) : (roundFloat F s x).toNat < 2 ^ F.totalBits := by
  unfold roundFloat
  split
  · exact floatZero_lt hF s
  · exact finishRound_lt hF s _ (roundedSignificand_le F x)

/-! ### Results of the float operations -/

theorem integerToFloat_lt {N : Nat} (signed : Bool) (x : BitVec N) :
    (integerToFloat N F signed x).toNat < 2 ^ F.totalBits := by
  unfold integerToFloat
  split
  · exact floatZero_lt hF _
  · exact roundFloat_lt hF _ _

/-- A carried NaN fraction fits the destination (43_float_common.md R106). -/
theorem convertedFraction_lt {S : FloatFormat} {f : Nat} (hf : f < 2 ^ S.significandBits) :
    convertedFraction S F f < 2 ^ F.significandBits := by
  unfold convertedFraction
  split
  case isTrue hlt =>
    refine Nat.or_lt_two_pow ?_ (quietBit_lt hF)
    rwa [Nat.div_lt_iff_lt_mul (by positivity), ← pow_add, Nat.add_sub_cancel' hlt.le]
  case isFalse hge =>
    refine Nat.or_lt_two_pow ?_ (quietBit_lt hF)
    calc f * 2 ^ (F.significandBits - S.significandBits)
        < 2 ^ S.significandBits * 2 ^ (F.significandBits - S.significandBits) := Nat.mul_lt_mul_of_pos_right hf (by positivity)
      _ = 2 ^ F.significandBits := by rw [← pow_add, Nat.add_sub_cancel' (Nat.le_of_not_lt hge)]

theorem convertNaN_lt (S : FloatFormat) (exact : Bool) (draw : Draw) (v : Word) :
    (convertNaN S F exact draw v).toNat < 2 ^ F.totalBits := by
  unfold convertNaN
  split
  · exact floatNaN_lt hF _ (convertedFraction_lt hF (BitVec.isLt _))
  · exact freeQuietNaN_lt hF _ _

theorem floatConvert_r0_lt (S : FloatFormat) (exact : Bool) (draw : Draw) (A : Word) :
    (floatConvert S F exact draw A).r0.toNat < 2 ^ F.totalBits := by
  cases hc : classify S A <;> simp only [floatConvert, hc]
  case nonCanonical => exact toPort_lt _ hF.fits
  case quietNaN => exact convertNaN_lt hF _ _ _ _
  case signallingNaN => exact convertNaN_lt hF _ _ _ _
  case infinity => exact floatInfinity_lt hF _
  case zero => exact floatZero_lt hF _
  case subnormal => exact roundFloat_lt hF _ _
  case normal => exact roundFloat_lt hF _ _

theorem quieted_lt (v : Word) : (quieted F v).toNat < 2 ^ F.totalBits := by
  have hq : F.quietBit < 2 ^ F.totalBits :=
    (quietBit_lt hF).trans_le (Nat.pow_le_pow_right (by decide)
      (by have := hF.total; have := significandBits_le_storedBits F; omega))
  rw [quieted, BitVec.toNat_or, floatOperand_toNat _ _ hF.fits, BitVec.toNat_ofNat]
  exact Nat.or_lt_two_pow (Nat.mod_lt _ (by positivity)) ((Nat.mod_le _ _).trans_lt hq)

theorem multiplyNaN_lt (exact : Bool) (draw : Draw) {v : Word} (hv : v.toNat < 2 ^ F.totalBits) :
    (multiplyNaN F exact draw v).toNat < 2 ^ F.totalBits := by
  unfold multiplyNaN
  split
  · exact hv
  · exact freeQuietNaN_lt hF _ _

theorem multiplyFloat_lt (exact : Bool) (draw : Draw) (a b : Word) :
    (multiplyFloat F exact draw a b).toNat < 2 ^ F.totalBits := by
  simp only [multiplyFloat]
  split_ifs
  · exact multiplyNaN_lt hF _ _ (quieted_lt hF a)
  · exact multiplyNaN_lt hF _ _ (quieted_lt hF b)
  · exact multiplyNaN_lt hF _ _ (floatNaN_lt hF _ (quietBit_lt hF))
  · exact floatInfinity_lt hF _
  · exact floatZero_lt hF _
  · exact roundFloat_lt hF _ _

end

/-! ### Responses -/

/-- Both results of a response fit `K` bits, and R1 is 0 unless there are two (30_encoding.md R54). -/
structure Response.Fits (x : Response) (K : Nat) (two : Bool) : Prop where
  r0_lt : x.r0.toNat < 2 ^ K
  r1_lt : x.r1.toNat < 2 ^ K
  r1_zero : two = false → x.r1 = 0

theorem Response.fits_of_one {x : Response} {K : Nat} {two : Bool} (h0 : x.r0.toNat < 2 ^ K) (h1 : x.r1 = 0) :
    x.Fits K two :=
  ⟨h0, by rw [h1]; exact Nat.two_pow_pos K, fun _ => h1⟩

theorem Response.fits_of_two {x : Response} {K : Nat} (h0 : x.r0.toNat < 2 ^ K) (h1 : x.r1.toNat < 2 ^ K) :
    x.Fits K true :=
  ⟨h0, h1, fun h => by cases h⟩

section
variable {N : Nat} (hN : N ≤ 128) (draw : Draw) (A B : Word)
include hN

theorem udivmod_fits : (udivmod N draw A B).Fits N true := by
  simp only [udivmod]
  split <;> exact Response.fits_of_two (toPort_lt _ hN) (toPort_lt _ hN)

theorem udiv_fits (two : Bool) : (udiv N draw A B).Fits N two := by
  simp only [udiv]
  split <;> exact Response.fits_of_one (toPort_lt _ hN) rfl

theorem umod_fits (two : Bool) : (umod N draw A B).Fits N two := by
  simp only [umod]
  split <;> exact Response.fits_of_one (toPort_lt _ hN) rfl

theorem sdivmod_fits : (sdivmod N draw A B).Fits N true := by
  simp only [sdivmod]
  split <;> exact Response.fits_of_two (toPort_lt _ hN) (toPort_lt _ hN)

theorem sdiv_fits (two : Bool) : (sdiv N draw A B).Fits N two := by
  simp only [sdiv]
  split <;> exact Response.fits_of_one (toPort_lt _ hN) rfl

theorem smod_fits (two : Bool) : (smod N draw A B).Fits N two := by
  simp only [smod]
  split <;> exact Response.fits_of_one (toPort_lt _ hN) rfl

end

theorem zeroCount_fits {N : Nat} (count : CountOfZero → BitVec N → BitVec 32) (draw : Draw) (A : Word) (two : Bool) :
    (zeroCount N count draw A).Fits 32 two := by
  simp only [zeroCount]
  split <;> exact Response.fits_of_one (toPort_lt _ (by decide)) rfl

theorem floatConvert_r1 (S D : FloatFormat) (exact : Bool) (draw : Draw) (A : Word) :
    (floatConvert S D exact draw A).r1 = 0 := by
  unfold floatConvert
  split <;> rfl

/-! ### The statement -/

theorem resultFormat_valid (i : Instr) : (resultFormat i).Valid := by
  unfold resultFormat
  split <;> exact formatByCode_valid _

theorem operandBits_le_128 (i : Instr) : operandBits i ≤ 128 := by cases i <;> decide

theorem resultBits_of_division {i : Instr} (h : familyOf i = 1) : resultBits i = operandBits i := by
  simp [resultBits, operandBits, h]

theorem resultBits_of_zeroCount {i : Instr} (h : familyOf i = 2) : resultBits i = 32 := by simp [resultBits, h]

theorem resultBits_of_float {i : Instr} (h : 3 ≤ familyOf i) : resultBits i = (resultFormat i).totalBits := by
  rw [resultBits, if_neg (by omega), if_neg (by omega)]

theorem resultFormat_of_multiply {i : Instr} (h : familyOf i = 5) : resultFormat i = operandFormat i := if_pos h

/-- The response of an operation fits the width of its results (30_encoding.md R54). -/
theorem meaning_fits {i : Instr} {f : Draw → Word → Word → Response} (hf : MeaningOf i f) (draw : Draw) (A B : Word) :
    (f draw A B).Fits (resultBits i) (hasTwoResults i) := by
  have hN := operandBits_le_128 i
  have hD := resultFormat_valid i
  cases hf with
  | udivmod hfam htwo => rw [resultBits_of_division hfam, htwo]; exact udivmod_fits hN draw A B
  | udiv hfam => rw [resultBits_of_division hfam]; exact udiv_fits hN draw A B _
  | umod hfam => rw [resultBits_of_division hfam]; exact umod_fits hN draw A B _
  | sdivmod hfam htwo => rw [resultBits_of_division hfam, htwo]; exact sdivmod_fits hN draw A B
  | sdiv hfam => rw [resultBits_of_division hfam]; exact sdiv_fits hN draw A B _
  | smod hfam => rw [resultBits_of_division hfam]; exact smod_fits hN draw A B _
  | zeroCount hfam count => rw [resultBits_of_zeroCount hfam]; exact zeroCount_fits count draw A _
  | intToFloat hfam signed =>
    rw [resultBits_of_float hfam.ge]
    exact Response.fits_of_one (integerToFloat_lt hD signed _) rfl
  | floatConvert hfam =>
    rw [resultBits_of_float (by omega)]
    exact Response.fits_of_one (floatConvert_r0_lt hD _ _ _ _) (floatConvert_r1 _ _ _ _ _)
  | floatMultiply hfam =>
    rw [resultBits_of_float (by omega), resultFormat_of_multiply hfam]
    exact Response.fits_of_one (multiplyFloat_lt (operandFormat_valid i) _ _ _ _) rfl

/-- Settles O25: an execution writes R0 and R1 from its operation's response, which fits the width of the results. -/
theorem resultsFitTheirWidth : Obligations.ResultsFitTheirWidth := by
  intro i s t ht
  obtain ⟨f, hf, hexec⟩ := exec_meaning i
  rw [hexec] at ht
  cases ht
  obtain ⟨h0, h1, hzero⟩ := meaning_fits hf s.draws s.a s.b
  exact ⟨h0, h1, hzero⟩

end Sys2Proof.Machine
end

section
/-! PROOFS. The restoring division algorithm computes quotient and remainder (40_unsigned_division.md R65, R66): after each pass the
engine holds the division of the dividend's bits shifted in so far. -/

namespace Sys2Proof.Machine

/-! ### Shifts of a register -/

theorem two_pow_eq_two_mul {N : Nat} (hN : 0 < N) : 2 ^ N = 2 * 2 ^ (N - 1) := by
  rw [← pow_succ', Nat.sub_add_cancel hN]

/-- Shifting a register left by one drops its top bit, doubles the rest and leaves room for the bit filled in. -/
theorem shiftIn_toNat {N : Nat} (x : BitVec N) {b : BitVec N} (hN : 0 < N) (hb : b.toNat < 2) :
    ((x <<< 1) ||| b).toNat = 2 * (x.toNat % 2 ^ (N - 1)) + b.toNat := by
  have hshift : (x <<< 1).toNat = 2 ^ 1 * (x.toNat % 2 ^ (N - 1)) := by
    rw [BitVec.toNat_shiftLeft, Nat.shiftLeft_eq, two_pow_eq_two_mul hN, Nat.mul_comm, pow_one, Nat.mul_mod_mul_left]
  rw [BitVec.toNat_or, hshift, ← Nat.two_pow_add_eq_or_of_lt (by simpa using hb), pow_one]

/-! ### One pass -/

/-- The comparison mask of a pass: all ones exactly if the divisor fits into the shifted remainder (40_unsigned_division.md R65). The
difference must not overflow into the sign bit: the remainder is below twice the divisor, and not too far below the divisor. -/
theorem compareMask_eq {N : Nat} {d r : BitVec N} (hr : r.toNat < 2 * d.toNat) (hd : d.toNat ≤ 2 ^ (N - 1) + r.toNat) :
    (d - r - 1).sshiftRight (N - 1) = if d.toNat ≤ r.toNat then BitVec.allOnes N else 0 := by
  have hsign : (d - r - 1).msb = decide (d.toNat ≤ r.toNat) := by
    have hdlt := d.isLt
    have hrlt := r.isLt
    have hN : 0 < N := Nat.pos_of_ne_zero fun h => by subst h; omega
    have hpow := two_pow_eq_two_mul hN
    have hdiff : (d - r - 1).toNat = (2 ^ N - 1 + (2 ^ N - r.toNat + d.toNat)) % 2 ^ N := by
      rw [BitVec.toNat_sub, BitVec.toNat_sub, Nat.add_mod_mod, BitVec.ofNat_eq_ofNat, BitVec.toNat_ofNat,
        Nat.mod_eq_of_lt (Nat.one_lt_two_pow hN.ne')]
    rw [BitVec.msb_eq_decide, hdiff, decide_eq_decide]
    obtain hle | hlt := le_or_gt d.toNat r.toNat
    · rw [show 2 ^ N - 1 + (2 ^ N - r.toNat + d.toNat) = 2 ^ N - 1 - (r.toNat - d.toNat) + 2 ^ N by omega,
        Nat.add_mod_right, Nat.mod_eq_of_lt (by omega)]
      omega
    · rw [show 2 ^ N - 1 + (2 ^ N - r.toNat + d.toNat) = d.toNat - r.toNat - 1 + 2 ^ N + 2 ^ N by omega,
        Nat.add_mod_right, Nat.add_mod_right, Nat.mod_eq_of_lt (by omega)]
      omega
  exact (smask_eq _).trans (by rw [hsign]; simp only [decide_eq_true_eq])

/-- The remainder and the carry of a pass, from the shifted remainder (40_unsigned_division.md R65). -/
theorem dividePass_subtract {N : Nat} {d r : BitVec N} {t : DivideState N} (hN : 0 < N)
    (hshift : (t.r <<< 1) ||| (t.q >>> (N - 1)) = r)
    (hr : r.toNat < 2 * d.toNat) (hd : d.toNat ≤ 2 ^ (N - 1) + r.toNat) :
    (dividePass d t).r.toNat = r.toNat % d.toNat ∧ (dividePass d t).carry.toNat = r.toNat / d.toNat := by
  simp only [dividePass, hshift, compareMask_eq hr hd]
  split
  case isTrue hle =>
    have hdiv : r.toNat / d.toNat = 1 := Nat.div_eq_of_lt_le (by omega) (by omega)
    have hmod : r.toNat % d.toNat = r.toNat - d.toNat := by
      rw [Nat.mod_eq_sub_mod hle, Nat.mod_eq_of_lt (by omega)]
    rw [BitVec.and_allOnes, BitVec.allOnes_and, hdiv, hmod]
    exact ⟨BitVec.toNat_sub_of_le hle, by simp [Nat.mod_eq_of_lt (Nat.one_lt_two_pow hN.ne')]⟩
  case isFalse hlt =>
    rw [Nat.div_eq_of_lt (by omega), Nat.mod_eq_of_lt (by omega)]
    simp

/-! ### The loop invariant -/

/-- With `m` bits of the dividend still to shift in, the engine has divided the bits above them: the remainder is there, the last
quotient bit is the carry, and the quotient register holds the `m` bits above the earlier quotient bits
(40_unsigned_division.md R65). -/
structure DividedPrefix {N : Nat} (n d : BitVec N) (m : Nat) (t : DivideState N) : Prop where
  r_eq : t.r.toNat = n.toNat / 2 ^ m % d.toNat
  carry_eq : t.carry.toNat = n.toNat / 2 ^ m / d.toNat % 2
  q_eq : t.q.toNat = n.toNat % 2 ^ m * 2 ^ (N - m) + n.toNat / 2 ^ m / d.toNat / 2

/-- Appending a bit to a dividend: its remainder is that of the shifted remainder, whose quotient is the new quotient bit. -/
theorem divMod_append_bit {d b : Nat} (p : Nat) (hd : 0 < d) :
    (2 * p + b) % d = (2 * (p % d) + b) % d ∧ (2 * p + b) / d = 2 * (p / d) + (2 * (p % d) + b) / d := by
  have hp : 2 * p + b = 2 * (p % d) + b + d * (2 * (p / d)) := by
    have := Nat.mod_add_div p d
    rw [Nat.mul_left_comm]
    omega
  rw [hp, Nat.add_mul_mod_self_left, Nat.add_mul_div_left _ _ hd]
  exact ⟨rfl, Nat.add_comm _ _⟩

/-- The dividend's bits above bit `m`, as the bits above bit `m + 1` with the next one appended. -/
theorem topBits_succ (n m : Nat) : n / 2 ^ m = 2 * (n / 2 ^ (m + 1)) + n / 2 ^ m % 2 := by
  rw [pow_succ, ← Nat.div_div_eq_div_mul]
  omega

section
variable {N : Nat} {n d : BitVec N} {m : Nat} {t : DivideState N} (h : DividedPrefix n d (m + 1) t) (hm : m + 1 < N)
include h hm

/-- The quotient register holds the next dividend bit on top, and below it the later ones and the earlier quotient bits. -/
theorem DividedPrefix.q_split :
    t.q.toNat / 2 ^ (N - 1) = n.toNat / 2 ^ m % 2 ∧
    t.q.toNat % 2 ^ (N - 1) = n.toNat % 2 ^ m * 2 ^ (N - (m + 1)) + n.toNat / 2 ^ (m + 1) / d.toNat / 2 := by
  generalize hlow : n.toNat % 2 ^ m * 2 ^ (N - (m + 1)) + n.toNat / 2 ^ (m + 1) / d.toNat / 2 = low
  have htop : 2 ^ m * 2 ^ (N - (m + 1)) = 2 ^ (N - 1) := by rw [← pow_add]; congr 1; omega
  have hquot : n.toNat / 2 ^ (m + 1) / d.toNat / 2 < 2 ^ (N - (m + 1)) := by
    refine ((Nat.div_le_self _ _).trans (Nat.div_le_self _ _)).trans_lt (Nat.div_lt_of_lt_mul ?_)
    rw [← pow_add, Nat.add_sub_cancel' hm.le]
    exact n.isLt
  have hlt : low < 2 ^ (N - 1) :=
    calc low < (n.toNat % 2 ^ m + 1) * 2 ^ (N - (m + 1)) := by rw [Nat.add_mul, Nat.one_mul]; omega
      _ ≤ 2 ^ m * 2 ^ (N - (m + 1)) := Nat.mul_le_mul_right _ (Nat.mod_lt _ (Nat.two_pow_pos m))
      _ = 2 ^ (N - 1) := htop
  have hq : t.q.toNat = low + 2 ^ (N - 1) * (n.toNat / 2 ^ m % 2) := by
    rw [h.q_eq, Nat.mod_pow_succ, Nat.add_mul, Nat.mul_right_comm, htop, ← hlow]
    omega
  rw [hq, Nat.add_mul_div_left _ _ (Nat.two_pow_pos _), Nat.add_mul_mod_self_left, Nat.div_eq_of_lt hlt,
    Nat.mod_eq_of_lt hlt, Nat.zero_add]
  exact ⟨rfl, rfl⟩

/-- The shifted remainder is the remainder with the next dividend bit appended; it is at most the bits shifted in, so none is lost. -/
theorem DividedPrefix.shiftedRemainder :
    ((t.r <<< 1) ||| (t.q >>> (N - 1))).toNat =
      2 * (n.toNat / 2 ^ (m + 1) % d.toNat) + n.toNat / 2 ^ m % 2 := by
  have hbit : (t.q >>> (N - 1)).toNat = n.toNat / 2 ^ m % 2 := by
    rw [BitVec.toNat_ushiftRight, Nat.shiftRight_eq_div_pow, (h.q_split hm).1]
  have hle := Nat.mod_le (n.toNat / 2 ^ (m + 1)) d.toNat
  have htopBits := topBits_succ n.toNat m
  have hn : n.toNat / 2 ^ m < 2 ^ N := (Nat.div_le_self _ _).trans_lt n.isLt
  have hpow := two_pow_eq_two_mul (N := N) (by omega)
  rw [shiftIn_toNat _ (by omega) (by omega), hbit, h.r_eq, Nat.mod_eq_of_lt (a := _ % d.toNat) (by omega)]

/-- The pass shifts the carry into the quotient register, and out of it the dividend bit it has used. -/
theorem DividedPrefix.shiftedQuotient :
    ((t.q <<< 1) ||| t.carry).toNat = n.toNat % 2 ^ m * 2 ^ (N - m) + n.toNat / 2 ^ m / d.toNat / 2 := by
  have hcarry := h.carry_eq
  have hpow : 2 ^ (N - m) = 2 * 2 ^ (N - (m + 1)) := by rw [← pow_succ']; congr 1; omega
  have hquot : n.toNat / 2 ^ m / d.toNat / 2 = n.toNat / 2 ^ (m + 1) / d.toNat := by
    rw [Nat.div_right_comm, pow_succ, ← Nat.div_div_eq_div_mul]
  rw [shiftIn_toNat _ (by omega) (by omega), (h.q_split hm).2, hquot, hpow, Nat.mul_left_comm]
  omega

/-- A pass divides one bit more of the dividend, if the divisor is not too far above these bits for the comparison mask. -/
theorem DividedPrefix.pass (hd0 : 0 < d.toNat) (hd : d.toNat ≤ 2 ^ (N - 1) + n.toNat / 2 ^ m) :
    DividedPrefix n d m (dividePass d t) := by
  have hshift := h.shiftedRemainder hm
  have htopBits := topBits_succ n.toNat m
  generalize hr : (t.r <<< 1) ||| (t.q >>> (N - 1)) = r at hshift
  have hmod := Nat.mod_lt (n.toNat / 2 ^ (m + 1)) hd0
  have hnear : d.toNat ≤ 2 ^ (N - 1) + r.toNat := by
    obtain hlt | hge := lt_or_ge (n.toNat / 2 ^ (m + 1)) d.toNat
    · rw [Nat.mod_eq_of_lt hlt] at hshift
      omega
    · have hpow := two_pow_eq_two_mul (N := N) (by omega)
      have hn : n.toNat / 2 ^ m < 2 ^ N := (Nat.div_le_self _ _).trans_lt n.isLt
      omega
  obtain ⟨hrem, hcarry⟩ := dividePass_subtract (by omega) hr (by omega) hnear
  obtain ⟨happend_mod, happend_div⟩ := divMod_append_bit (b := n.toNat / 2 ^ m % 2) (n.toNat / 2 ^ (m + 1)) hd0
  rw [← htopBits, ← hshift] at happend_mod happend_div
  have hbit : r.toNat / d.toNat < 2 := Nat.div_lt_of_lt_mul (by omega)
  exact ⟨hrem.trans happend_mod.symm, by rw [hcarry, happend_div]; omega, h.shiftedQuotient hm⟩

end

/-! ### The whole loop -/

/-- The loop shifts the rest of the dividend in. The divisor need only be near the bits of the first pass: later passes
have more. -/
theorem DividedPrefix.passes {N : Nat} {n d : BitVec N} (hd0 : 0 < d.toNat) {k : Nat} {t : DivideState N}
    (h : DividedPrefix n d k t) (hk : k < N) (hd : d.toNat ≤ 2 ^ (N - 1) + n.toNat / 2 ^ (k - 1)) :
    DividedPrefix n d 0 (dividePasses d k t) := by
  induction k generalizing t with
  | zero => exact h
  | succ k ih =>
    have hmono : n.toNat / 2 ^ k ≤ n.toNat / 2 ^ (k - 1) :=
      Nat.div_le_div_left (Nat.pow_le_pow_right (by decide) (Nat.sub_le k 1)) (Nat.two_pow_pos _)
    exact ih (h.pass hk hd0 hd) (by omega) (hd.trans (by simpa using hmono))

/-- The loop starts with the dividend's top bits, which are below the divisor, as remainder. -/
theorem dividedPrefix_start {N : Nat} {n d : BitVec N} {k : Nat} (hk : k ≤ N) (hlt : n.toNat / 2 ^ k < d.toNat) :
    DividedPrefix n d k { q := n <<< (N - k), r := n >>> k, carry := 0 } := by
  have hquot : n.toNat / 2 ^ k / d.toNat = 0 := Nat.div_eq_of_lt hlt
  have hpow : 2 ^ N = 2 ^ k * 2 ^ (N - k) := by rw [← pow_add, Nat.add_sub_cancel' hk]
  constructor
  · rw [BitVec.toNat_ushiftRight, Nat.shiftRight_eq_div_pow, Nat.mod_eq_of_lt hlt]
  · simp [hquot]
  · rw [BitVec.toNat_shiftLeft, Nat.shiftLeft_eq, hpow, Nat.mul_mod_mul_right, hquot, Nat.zero_div, Nat.add_zero]

/-- Once the whole dividend is shifted in, the carry completes the quotient. -/
theorem DividedPrefix.result {N : Nat} {n d : BitVec N} {t : DivideState N} (h : DividedPrefix n d 0 t) (hN : 0 < N) :
    ((t.q <<< 1) ||| t.carry, t.r) = divide n d := by
  obtain ⟨hr, hcarry, hq⟩ := h
  rw [pow_zero, Nat.div_one] at hr hcarry hq
  rw [Nat.mod_one, Nat.zero_mul, Nat.zero_add] at hq
  have hlt : n.toNat / d.toNat < 2 ^ N := (Nat.div_le_self _ _).trans_lt n.isLt
  have hpow := two_pow_eq_two_mul hN
  apply Prod.ext <;> apply BitVec.eq_of_toNat_eq
  · rw [shiftIn_toNat _ hN (by omega), Nat.mod_eq_of_lt (by omega), divide_fst_toNat]
    omega
  · rw [hr, divide_snd_toNat]

/-! ### The early exits -/

/-- A dividend with more leading zeros than the divisor is below it (40_unsigned_division.md R63, R65). -/
theorem lt_of_lz_lt {N : Nat} {n d : BitVec N} (hd : d ≠ 0) (h : lz d < lz n) : n.toNat < d.toNat := by
  obtain ⟨hlt, hlow, -⟩ := lz_bounds d hd
  by_cases hn : n = 0
  · subst hn
    simpa using (Nat.two_pow_pos _).trans_le hlow
  · obtain ⟨-, -, hhigh⟩ := lz_bounds n hn
    exact hhigh.trans_le ((Nat.pow_le_pow_right (by decide) (by omega)).trans hlow)

/-- Only the divisor 1 has N - 1 leading zeros (40_unsigned_division.md R63, R65). -/
theorem eq_one_of_lz {N : Nat} {d : BitVec N} (hd : d ≠ 0) (h : N - 1 ≤ lz d) : d.toNat = 1 := by
  obtain ⟨hlt, hlow, hhigh⟩ := lz_bounds d hd
  rw [show N - lz d = 1 by omega] at hhigh
  rw [show N - 1 - lz d = 0 by omega] at hlow
  omega

theorem divide_of_lt {N : Nat} {n d : BitVec N} (h : n.toNat < d.toNat) : divide n d = (0, n) := by
  simp [divide, Nat.div_eq_of_lt h, Nat.mod_eq_of_lt h]

theorem divide_of_one {N : Nat} {n d : BitVec N} (h : d.toNat = 1) : divide n d = (n, 0) := by
  simp [divide, h, Nat.mod_one]

/-! ### The algorithm -/

/-- At the loop's start the dividend's top bits are below the divisor, and with the next bit near it. -/
theorem divisor_bounds_of_lz {N : Nat} {n d : BitVec N} (hn : n ≠ 0) (hd : d ≠ 0) (h : lz n ≤ lz d) :
    n.toNat / 2 ^ (lz d - lz n + 1) < d.toNat ∧ d.toNat ≤ 2 ^ (N - 1) + n.toNat / 2 ^ (lz d - lz n) := by
  obtain ⟨hnlt, hnlow, hnhigh⟩ := lz_bounds n hn
  obtain ⟨hdlt, hdlow, hdhigh⟩ := lz_bounds d hd
  constructor
  · refine (Nat.div_lt_of_lt_mul ?_).trans_le hdlow
    rw [← pow_add]
    exact hnhigh.trans_le (Nat.pow_le_pow_right (by decide) (by omega))
  · have htopBits : 2 ^ (N - 1 - lz d) ≤ n.toNat / 2 ^ (lz d - lz n) := by
      rw [Nat.le_div_iff_mul_le (Nat.two_pow_pos _), ← pow_add]
      exact (Nat.pow_le_pow_right (by decide) (by omega)).trans hnlow
    have hhalf : 2 ^ (N - lz d) = 2 * 2 ^ (N - 1 - lz d) := by rw [← pow_succ']; congr 1; omega
    have htop : 2 ^ (N - 1 - lz d) ≤ 2 ^ (N - 1) := Nat.pow_le_pow_right (by decide) (Nat.sub_le _ _)
    omega

theorem divideLoopCount_of_loop {N : Nat} {n d : BitVec N} (h : lz n ≤ lz d) (hlt : lz d - lz n < N - 1) :
    divideLoopCount n d = lz d - lz n + 1 := by
  have hshift : divideShift n d = (lz d : Int) - (lz n : Int) := rfl
  simp only [divideLoopCount]
  rw [if_neg (by omega)]
  omega

/-- The engine's algorithm gives the values the operations compute directly (40_unsigned_division.md R66). -/
theorem restoringDivide_eq_divide {N : Nat} {n d : BitVec N} (hd : d ≠ 0) : restoringDivide n d = divide n d := by
  obtain ⟨hdlt, hdlow, -⟩ := lz_bounds d hd
  have hd0 : 0 < d.toNat := (Nat.two_pow_pos _).trans_le hdlow
  have hshift : divideShift n d = (lz d : Int) - (lz n : Int) := rfl
  simp only [restoringDivide]
  split_ifs with hearly hone
  · rw [divide_of_lt (lt_of_lz_lt hd (by omega))]
  · rw [divide_of_one (eq_one_of_lz hd (by omega))]
  · have hle : lz n ≤ lz d := by omega
    have hn : n ≠ 0 := by rintro rfl; rw [lz_zero] at hle; omega
    obtain ⟨hbelow, hnear⟩ := divisor_bounds_of_lz hn hd hle
    rw [divideLoopCount_of_loop hle (by omega)]
    exact ((dividedPrefix_start (by omega) hbelow).passes hd0 (by omega) hnear).result (by omega)

/-- Settles O29: the algorithm computes `divide`, by an induction over the passes whose invariant is `DividedPrefix`. -/
theorem restoringDivisionIsCorrect : Obligations.RestoringDivisionIsCorrect := by
  intro N n d hd
  rw [restoringDivide_eq_divide hd]
  exact ⟨divide_fst_toNat n d, divide_snd_toNat n d, rfl⟩

end Sys2Proof.Machine
end

section
/-! PROOFS. The unsigned operations (40_unsigned_division.md R69 to R77): quotient and remainder of the operands, or draws under PV. -/

namespace Sys2Proof.Machine

/-! ### Answers -/

/-- An execution that completes with the response `x`, not illegal, answers it (10_state.md R29 (a)). -/
theorem answers_of_exec {i : Instr} {s : State} {x y : Response} (hexec : exec i s = .next (s.completed y)) (hxy : y = x)
    (hill : x.ill = false) : Answers i s x.r0 x.r1 x.pv := by
  subst hxy
  exact ⟨_, hexec, by simp [Responds, hill]⟩

/-- Zero-extension to a port keeps the value (30_encoding.md R54). -/
theorem toPort_eq_ofNat {K : Nat} (v : BitVec K) : toPort v = BitVec.ofNat 128 v.toNat := by
  rw [toPort, BitVec.ofNat_toNat]

/-! ### Responses -/

section
variable {N : Nat} {A B : Word} (draw : Draw)

theorem toPort_divide_fst :
    toPort (divide (intOperand N A) (intOperand N B)).1 = BitVec.ofNat 128 (A.toNat % 2 ^ N / (B.toNat % 2 ^ N)) := by
  rw [toPort_eq_ofNat, divide_fst_toNat, intOperand_toNat, intOperand_toNat]

theorem toPort_divide_snd :
    toPort (divide (intOperand N A) (intOperand N B)).2 = BitVec.ofNat 128 (A.toNat % 2 ^ N % (B.toNat % 2 ^ N)) := by
  rw [toPort_eq_ofNat, divide_snd_toNat, intOperand_toNat, intOperand_toNat]

theorem udivmod_of_ne_zero (h : B.toNat % 2 ^ N ≠ 0) :
    udivmod N draw A B = .pair (BitVec.ofNat 128 (A.toNat % 2 ^ N / (B.toNat % 2 ^ N)))
      (BitVec.ofNat 128 (A.toNat % 2 ^ N % (B.toNat % 2 ^ N))) := by
  rw [← toPort_divide_fst, ← toPort_divide_snd]
  exact if_neg (mt (intOperand_eq_zero_iff N B).1 h)

theorem udivmod_of_zero (h : B.toNat % 2 ^ N = 0) :
    udivmod N draw A B = .violationPair (toPort (draw N 0)) (toPort (draw N 1)) :=
  if_pos ((intOperand_eq_zero_iff N B).2 h)

theorem udiv_of_ne_zero (h : B.toNat % 2 ^ N ≠ 0) :
    udiv N draw A B = .single (BitVec.ofNat 128 (A.toNat % 2 ^ N / (B.toNat % 2 ^ N))) := by
  rw [← toPort_divide_fst]
  exact if_neg (mt (intOperand_eq_zero_iff N B).1 h)

theorem udiv_of_zero (h : B.toNat % 2 ^ N = 0) : udiv N draw A B = .violation (toPort (draw N 0)) :=
  if_pos ((intOperand_eq_zero_iff N B).2 h)

theorem umod_of_ne_zero (h : B.toNat % 2 ^ N ≠ 0) :
    umod N draw A B = .single (BitVec.ofNat 128 (A.toNat % 2 ^ N % (B.toNat % 2 ^ N))) := by
  rw [← toPort_divide_snd]
  exact if_neg (mt (intOperand_eq_zero_iff N B).1 h)

theorem umod_of_zero (h : B.toNat % 2 ^ N = 0) : umod N draw A B = .violation (toPort (draw N 0)) :=
  if_pos ((intOperand_eq_zero_iff N B).2 h)

end

/-! ### Operations -/

section
variable {w : Opcode} {i : Instr} {N : Nat} (hw : decode w = .ok i)
include hw

/-- An operation that completes with `udivmod` is the divide with remainder of its word (40_unsigned_division.md R69 to R71). -/
theorem isUDivMod_of_exec (h : ∀ s, exec i s = complete s (udivmod N s.draws s.a s.b)) : IsUDivMod w i N :=
  ⟨hw, fun s =>
    ⟨fun hb => answers_of_exec (h s) (udivmod_of_ne_zero _ hb) rfl,
     fun hb => answers_of_exec (h s) (udivmod_of_zero _ hb) rfl⟩⟩

/-- An operation that completes with `udiv` is the quotient of its word (40_unsigned_division.md R72 to R74). -/
theorem isUDiv_of_exec (h : ∀ s, exec i s = complete s (udiv N s.draws s.a s.b)) : IsUDiv w i N :=
  ⟨hw, fun s =>
    ⟨fun hb => answers_of_exec (h s) (udiv_of_ne_zero _ hb) rfl,
     fun hb => answers_of_exec (h s) (udiv_of_zero _ hb) rfl⟩⟩

/-- An operation that completes with `umod` is the remainder of its word (40_unsigned_division.md R75 to R77). -/
theorem isUMod_of_exec (h : ∀ s, exec i s = complete s (umod N s.draws s.a s.b)) : IsUMod w i N :=
  ⟨hw, fun s =>
    ⟨fun hb => answers_of_exec (h s) (umod_of_ne_zero _ hb) rfl,
     fun hb => answers_of_exec (h s) (umod_of_zero _ hb) rfl⟩⟩

end

/-! ### The statements -/

/-- Settles O26: each of the three words is that of an operation completing with `udivmod` at its width. -/
theorem unsignedDivideWithRemainder : Obligations.UnsignedDivideWithRemainder :=
  ⟨isUDivMod_of_exec rfl fun _ => rfl, isUDivMod_of_exec rfl fun _ => rfl, isUDivMod_of_exec rfl fun _ => rfl⟩

/-- Settles O27: each of the three words is that of an operation completing with `udiv` at its width. -/
theorem unsignedQuotient : Obligations.UnsignedQuotient :=
  ⟨isUDiv_of_exec rfl fun _ => rfl, isUDiv_of_exec rfl fun _ => rfl, isUDiv_of_exec rfl fun _ => rfl⟩

/-- Settles O28: each of the three words is that of an operation completing with `umod` at its width. -/
theorem unsignedRemainder : Obligations.UnsignedRemainder :=
  ⟨isUMod_of_exec rfl fun _ => rfl, isUMod_of_exec rfl fun _ => rfl, isUMod_of_exec rfl fun _ => rfl⟩

end Sys2Proof.Machine
end

section
/-! PROOFS. The signed adapter is division truncated toward zero (41_signed_division.md R80, R81), and the signed operations answer
with its results (R82 to R90), or with draws under PV. -/

namespace Sys2Proof.Machine

/-! ### The adapter -/

/-- The engine is the unsigned division of bit vectors (40_unsigned_division.md R66). -/
theorem divide_eq_udiv_umod {N : Nat} (n d : BitVec N) : divide n d = (n / d, n % d) :=
  Prod.ext (BitVec.eq_of_toNat_eq (by rw [divide_fst_toNat, BitVec.toNat_udiv]))
    (BitVec.eq_of_toNat_eq (by rw [divide_snd_toNat, BitVec.toNat_umod]))

/-- `negif_zero` with the zero in the form the library's `simp` lemmas give it. -/
@[simp] theorem negif_ofNat_zero {N : Nat} (x : BitVec N) : negif x 0#N = x := negif_zero x

/-- The adapter is the signed division of bit vectors: in each pair of signs it negates the operands and results that this
division negates (41_signed_division.md R79). -/
theorem sdivide_eq_sdiv_srem {N : Nat} (a b : BitVec N) : sdivide a b = (a.sdiv b, a.srem b) := by
  rw [BitVec.sdiv_eq, BitVec.srem_eq]
  simp only [sdivide, smask_eq, divide_eq_udiv_umod]
  cases a.msb <;> cases b.msb <;> simp

section
variable {N : Nat} (a b : BitVec N)

@[simp] theorem sdivide_snd_toInt : (sdivide a b).2.toInt = a.toInt.tmod b.toInt := by
  rw [sdivide_eq_sdiv_srem, BitVec.toInt_srem]

/-- The adapter's quotient is the truncated one, wrapped (41_signed_division.md R80, R81). -/
theorem sdivide_fst_eq_ofInt : (sdivide a b).1 = BitVec.ofInt N (a.toInt.tdiv b.toInt) :=
  BitVec.eq_of_toInt_eq (by rw [sdivide_eq_sdiv_srem, BitVec.toInt_sdiv, BitVec.toInt_ofInt])

theorem sdivide_snd_eq_ofInt : (sdivide a b).2 = BitVec.ofInt N (a.toInt.tmod b.toInt) := by
  rw [← sdivide_snd_toInt, BitVec.ofInt_toInt]

variable {a b}

/-- Outside the overflow case the truncated quotient does not wrap (41_signed_division.md R80). -/
theorem sdivide_fst_toInt (h : a ≠ BitVec.intMin N ∨ b ≠ -1#N) : (sdivide a b).1.toInt = a.toInt.tdiv b.toInt := by
  rw [sdivide_eq_sdiv_srem, BitVec.toInt_sdiv_of_ne_or_ne a b h]

end

theorem toInt_neg_one {N : Nat} (hN : 0 < N) : (-1#N).toInt = -1 := by
  rw [BitVec.neg_one_eq_allOnes, BitVec.toInt_allOnes, if_pos hN]

/-- The overflowing quotient wraps to the least value, with remainder 0 (41_signed_division.md R81). -/
theorem sdivide_intMin_neg_one {N : Nat} (hN : 0 < N) :
    sdivide (BitVec.intMin N) (-1#N) = (BitVec.intMin N, 0) := by
  have hrem : (BitVec.intMin N).srem (-1#N) = 0 :=
    BitVec.eq_of_toInt_eq (by
      rw [BitVec.toInt_srem, toInt_neg_one hN, Int.tmod_neg, Int.tmod_one, BitVec.ofNat_eq_ofNat, BitVec.toInt_zero])
  rw [sdivide_eq_sdiv_srem, BitVec.intMin_sdiv_neg_one, hrem]

/-! ### The remainder of a truncated division -/

theorem tmod_sign (x y : Int) : x.tmod y = 0 ∨ (x.tmod y < 0 ↔ x < 0) := by
  by_cases h : y ∣ x
  · exact .inl (Int.tmod_eq_zero_of_dvd h)
  · rw [← Int.sign_eq_neg_one_iff_neg, Int.sign_tmod, if_neg h, Int.sign_eq_neg_one_iff_neg]
    exact .inr Iff.rfl

theorem abs_tmod_lt (x : Int) {y : Int} (h : y ≠ 0) : |x.tmod y| < |y| := by
  rw [Int.abs_eq_natAbs, Int.abs_eq_natAbs, Int.natAbs_tmod]
  exact Int.ofNat_lt.2 (Nat.mod_lt _ (Int.natAbs_pos.2 h))

/-! ### Responses -/

/-- The signed reading of an operand is 0 exactly for the operand 0 (30_encoding.md R52). -/
theorem intOperand_eq_zero_iff_signedOf (N : Nat) (p : Word) : intOperand N p = 0 ↔ signedOf N p = 0 := by
  rw [signedOf, ← BitVec.toInt_zero (w := N), BitVec.toInt_inj]
  rfl

section
variable {N : Nat} {A B : Word} (draw : Draw)

theorem toPort_sdivide_fst :
    toPort (sdivide (intOperand N A) (intOperand N B)).1 = signedResult N ((signedOf N A).tdiv (signedOf N B)) := by
  rw [sdivide_fst_eq_ofInt]
  rfl

theorem toPort_sdivide_snd :
    toPort (sdivide (intOperand N A) (intOperand N B)).2 = signedResult N ((signedOf N A).tmod (signedOf N B)) := by
  rw [sdivide_snd_eq_ofInt]
  rfl

theorem sdivmod_of_ne_zero (h : signedOf N B ≠ 0) :
    sdivmod N draw A B = .pair (signedResult N ((signedOf N A).tdiv (signedOf N B)))
      (signedResult N ((signedOf N A).tmod (signedOf N B))) := by
  rw [← toPort_sdivide_fst, ← toPort_sdivide_snd]
  exact if_neg (mt (intOperand_eq_zero_iff_signedOf N B).1 h)

theorem sdivmod_of_zero (h : signedOf N B = 0) :
    sdivmod N draw A B = .violationPair (toPort (draw N 0)) (toPort (draw N 1)) :=
  if_pos ((intOperand_eq_zero_iff_signedOf N B).2 h)

theorem sdiv_of_ne_zero (h : signedOf N B ≠ 0) :
    sdiv N draw A B = .single (signedResult N ((signedOf N A).tdiv (signedOf N B))) := by
  rw [← toPort_sdivide_fst]
  exact if_neg (mt (intOperand_eq_zero_iff_signedOf N B).1 h)

theorem sdiv_of_zero (h : signedOf N B = 0) : sdiv N draw A B = .violation (toPort (draw N 0)) :=
  if_pos ((intOperand_eq_zero_iff_signedOf N B).2 h)

theorem smod_of_ne_zero (h : signedOf N B ≠ 0) :
    smod N draw A B = .single (signedResult N ((signedOf N A).tmod (signedOf N B))) := by
  rw [← toPort_sdivide_snd]
  exact if_neg (mt (intOperand_eq_zero_iff_signedOf N B).1 h)

theorem smod_of_zero (h : signedOf N B = 0) : smod N draw A B = .violation (toPort (draw N 0)) :=
  if_pos ((intOperand_eq_zero_iff_signedOf N B).2 h)

end

/-! ### Operations -/

section
variable {w : Opcode} {i : Instr} {N : Nat} (hw : decode w = .ok i)
include hw

/-- An operation that completes with `sdivmod` is the divide with remainder of its word (41_signed_division.md R82 to R84). -/
theorem isSDivMod_of_exec (h : ∀ s, exec i s = complete s (sdivmod N s.draws s.a s.b)) : IsSDivMod w i N :=
  ⟨hw, fun s =>
    ⟨fun hb => answers_of_exec (h s) (sdivmod_of_ne_zero _ hb) rfl,
     fun hb => answers_of_exec (h s) (sdivmod_of_zero _ hb) rfl⟩⟩

/-- An operation that completes with `sdiv` is the quotient of its word (41_signed_division.md R85 to R87). -/
theorem isSDiv_of_exec (h : ∀ s, exec i s = complete s (sdiv N s.draws s.a s.b)) : IsSDiv w i N :=
  ⟨hw, fun s =>
    ⟨fun hb => answers_of_exec (h s) (sdiv_of_ne_zero _ hb) rfl,
     fun hb => answers_of_exec (h s) (sdiv_of_zero _ hb) rfl⟩⟩

/-- An operation that completes with `smod` is the remainder of its word (41_signed_division.md R88 to R90). -/
theorem isSMod_of_exec (h : ∀ s, exec i s = complete s (smod N s.draws s.a s.b)) : IsSMod w i N :=
  ⟨hw, fun s =>
    ⟨fun hb => answers_of_exec (h s) (smod_of_ne_zero _ hb) rfl,
     fun hb => answers_of_exec (h s) (smod_of_zero _ hb) rfl⟩⟩

end

/-! ### The overflowing division -/

/-- The ports hold the least value and -1, the operands whose quotient overflows (41_signed_division.md R81). -/
structure Overflows (N : Nat) (A B : Word) : Prop where
  width_pos : 0 < N
  dividend : intOperand N A = BitVec.intMin N
  divisor : intOperand N B = BitVec.allOnes N

section
variable {N : Nat} {A B : Word} (h : Overflows N A B)
include h

theorem Overflows.sdivide_eq : sdivide (intOperand N A) (intOperand N B) = (BitVec.intMin N, 0) := by
  rw [h.dividend, h.divisor, ← BitVec.neg_one_eq_allOnes, sdivide_intMin_neg_one h.width_pos]

theorem Overflows.signedOf_divisor : signedOf N B = -1 := by
  have hB : signedOf N B = (intOperand N B).toInt := rfl
  rw [hB, h.divisor, ← BitVec.neg_one_eq_allOnes, toInt_neg_one h.width_pos]

theorem Overflows.signedOf_divisor_ne_zero : signedOf N B ≠ 0 := by
  rw [h.signedOf_divisor]
  decide

theorem Overflows.signedResult_tdiv :
    signedResult N ((signedOf N A).tdiv (signedOf N B)) = toPort (BitVec.intMin N) := by
  rw [← toPort_sdivide_fst, h.sdivide_eq]

theorem Overflows.signedResult_tmod : signedResult N ((signedOf N A).tmod (signedOf N B)) = 0 := by
  rw [← toPort_sdivide_snd, h.sdivide_eq]
  exact BitVec.setWidth_zero 128 N

end

section
variable {w : Opcode} {i : Instr} {N : Nat} {s : State} (h : Overflows N s.a s.b)
include h

theorem IsSDivMod.answers_overflow (hi : IsSDivMod w i N) : Answers i s (toPort (BitVec.intMin N)) 0 false := by
  rw [← h.signedResult_tdiv, ← h.signedResult_tmod]
  exact (hi.2 s).1 h.signedOf_divisor_ne_zero

theorem IsSDiv.answers_overflow (hi : IsSDiv w i N) : Answers i s (toPort (BitVec.intMin N)) 0 false := by
  rw [← h.signedResult_tdiv]
  exact (hi.2 s).1 h.signedOf_divisor_ne_zero

theorem IsSMod.answers_overflow (hi : IsSMod w i N) : Answers i s 0 0 false := by
  have hr := (hi.2 s).1 h.signedOf_divisor_ne_zero
  rwa [h.signedResult_tmod] at hr

end

/-! ### The statements -/

theorem allWidths_pos {N : Nat} (h : N ∈ allWidths) : 0 < N := by
  simp only [allWidths, List.mem_cons, List.not_mem_nil, or_false] at h
  omega

/-- Settles O34: the adapter is the library's signed division, whose quotient and remainder are those of integer division
truncated toward zero. -/
theorem signedAdapterTruncates : Obligations.SignedAdapterTruncates := by
  intro N hN a b hb hover
  have hb0 : b.toInt ≠ 0 := by rwa [← BitVec.toInt_zero (w := N), BitVec.toInt_ne]
  have hfits : a ≠ BitVec.intMin N ∨ b ≠ -1#N := by
    rw [← not_and_or]
    rintro ⟨ha, rfl⟩
    exact hover ⟨ha, toInt_neg_one (allWidths_pos hN)⟩
  rw [sdivide_fst_toInt hfits, sdivide_snd_toInt]
  exact ⟨rfl, eq_sub_of_add_eq (Int.tmod_add_tdiv_mul _ _), tmod_sign _ _, abs_tmod_lt _ hb0⟩

/-- Settles O31: each of the three words is that of an operation completing with `sdivmod` at its width. -/
theorem signedDivideWithRemainder : Obligations.SignedDivideWithRemainder :=
  ⟨isSDivMod_of_exec rfl fun _ => rfl, isSDivMod_of_exec rfl fun _ => rfl, isSDivMod_of_exec rfl fun _ => rfl⟩

/-- Settles O32: each of the three words is that of an operation completing with `sdiv` at its width. -/
theorem signedQuotient : Obligations.SignedQuotient :=
  ⟨isSDiv_of_exec rfl fun _ => rfl, isSDiv_of_exec rfl fun _ => rfl, isSDiv_of_exec rfl fun _ => rfl⟩

/-- Settles O33: each of the three words is that of an operation completing with `smod` at its width. -/
theorem signedRemainder : Obligations.SignedRemainder :=
  ⟨isSMod_of_exec rfl fun _ => rfl, isSMod_of_exec rfl fun _ => rfl, isSMod_of_exec rfl fun _ => rfl⟩

/-- Settles O35: the adapter's quotient wraps to the least value, and the operations answer with the adapter's results, by the
statements above. -/
theorem signedOverflowWraps : Obligations.SignedOverflowWraps := by
  obtain ⟨hdivmod32, hdivmod64, hdivmod128⟩ := signedDivideWithRemainder
  obtain ⟨hdiv32, hdiv64, hdiv128⟩ := signedQuotient
  obtain ⟨hmod32, hmod64, hmod128⟩ := signedRemainder
  refine ⟨fun N hN => sdivide_intMin_neg_one (allWidths_pos hN), fun s ha hb => ?_, fun s ha hb => ?_, fun s ha hb => ?_⟩
  · have h : Overflows 32 s.a s.b := ⟨by decide, ha, hb⟩
    exact ⟨hdivmod32.answers_overflow h, hdiv32.answers_overflow h, hmod32.answers_overflow h⟩
  · have h : Overflows 64 s.a s.b := ⟨by decide, ha, hb⟩
    exact ⟨hdivmod64.answers_overflow h, hdiv64.answers_overflow h, hmod64.answers_overflow h⟩
  · have h : Overflows 128 s.a s.b := ⟨by decide, (BitVec.setWidth_eq _).trans ha, (BitVec.setWidth_eq _).trans hb⟩
    exact ⟨hdivmod128.answers_overflow h, hdiv128.answers_overflow h, hmod128.answers_overflow h⟩

end Sys2Proof.Machine
end

section
/-! PROOFS. The zero counts (42_zero_count.md R94 to R99): the base counts, and each count composed of two half counts, give the number
of zeros above the highest 1 or below the lowest 1 of a nonzero operand; a zero operand is answered with a draw under PV. -/

namespace Sys2Proof.Machine

/-! ### Zeros of a number in two halves -/

/-- The leading zeros of a nonzero `N`-bit number: `N - 1` less the position of its highest 1. -/
def highZeros (N x : Nat) : Nat := N - 1 - Nat.log2 x

theorem highZeros_of_high_ne_zero {K x : Nat} (h : x / 2 ^ K ≠ 0) :
    highZeros (K + K) x = highZeros K (x / 2 ^ K) := by
  have hx : x ≠ 0 := by rintro rfl; exact h (Nat.zero_div _)
  have hK : K ≤ x.log2 := (Nat.le_log2 hx).2 (Nat.le_of_not_lt (mt Nat.div_eq_of_lt h))
  have hlog : (x / 2 ^ K).log2 = x.log2 - K := by
    rw [Nat.log2_eq_log_two, Nat.log_div_base_pow, Nat.log2_eq_log_two]
  rw [highZeros, highZeros, hlog]
  omega

theorem highZeros_of_lt {K x : Nat} (h0 : x ≠ 0) (h : x < 2 ^ K) : highZeros (K + K) x = K + highZeros K x := by
  have hlog : x.log2 < K := (Nat.log2_lt h0).2 h
  rw [highZeros, highZeros]
  omega

theorem lowZeros_succ_of_odd (n : Nat) {x : Nat} (h : x % 2 = 1) : lowZeros (n + 1) x = 0 := if_pos h

theorem lowZeros_succ_two_mul (n y : Nat) : lowZeros (n + 1) (2 * y) = lowZeros n y + 1 := by
  have heven : ¬ 2 * y % 2 = 1 := by omega
  rw [lowZeros, if_neg heven, Nat.mul_div_cancel_left y two_pos]

theorem lowZeros_two_pow_mul (a b y : Nat) : lowZeros (a + b) (2 ^ a * y) = a + lowZeros b y := by
  induction a with
  | zero => simp
  | succ a ih =>
    have hpow : 2 ^ (a + 1) * y = 2 * (2 ^ a * y) := by ring
    rw [hpow, Nat.succ_add, lowZeros_succ_two_mul, ih]
    omega

/-- A 1 in the low bits ends the count: the bits above it do not enter. -/
theorem lowZeros_of_low_ne_zero (a b : Nat) {x : Nat} (h : x % 2 ^ a ≠ 0) :
    lowZeros (a + b) x = lowZeros a (x % 2 ^ a) := by
  induction a generalizing x with
  | zero => exact absurd (Nat.mod_one x) h
  | succ a ih =>
    rw [Nat.succ_add]
    obtain ⟨y, rfl | rfl⟩ := Nat.even_or_odd' x
    · have hmod : 2 * y % 2 ^ (a + 1) = 2 * (y % 2 ^ a) := by rw [pow_succ', Nat.mul_mod_mul_left]
      rw [hmod] at h ⊢
      rw [lowZeros_succ_two_mul, lowZeros_succ_two_mul, ih (right_ne_zero_of_mul h)]
    · have hodd : (2 * y + 1) % 2 = 1 := by omega
      have hmod : (2 * y + 1) % 2 ^ (a + 1) % 2 = 1 := by
        rw [Nat.mod_mod_of_dvd _ (dvd_pow_self 2 (Nat.succ_ne_zero a)), hodd]
      rw [lowZeros_succ_of_odd _ hodd, lowZeros_succ_of_odd _ hmod]

/-! ### Counts -/

/-- `count` gives the `f` of every nonzero operand, whatever the base counts of 0 are (42_zero_count.md R91). -/
def Counts {N : Nat} (count : CountOfZero → BitVec N → BitVec 32) (f : Nat → Nat) : Prop :=
  ∀ (u : CountOfZero) (x : BitVec N), x ≠ 0 → count u x = BitVec.ofNat 32 (f x.toNat)

theorem clz32_counts : Counts (fun u => clz32 (u 0)) (highZeros 32) := fun u _ hx => clz32_of_ne (u 0) hx

theorem ctz32_counts : Counts (fun u => ctz32 (u 0)) (lowZeros 32) := fun u _ hx => ctz32_of_ne (u 0) hx

/-- The composition selects the count of the first half, or past a first half of 0 that of the second (42_zero_count.md R92, R93). -/
theorem Counts.select {K : Nat} {count : CountOfZero → BitVec K → BitVec 32} {f : Nat → Nat} (hc : Counts count f)
    (u v : CountOfZero) {first second : BitVec K} {n : Nat} (hfirst : first ≠ 0 → n = f first.toNat)
    (hsecond : first = 0 → second ≠ 0 ∧ n = K + f second.toNat) :
    selectCount (zeroMask first) (count u first) (BitVec.ofNat 32 K + count v second) = BitVec.ofNat 32 n := by
  by_cases h : first = 0
  · obtain ⟨hne, hn⟩ := hsecond h
    rw [h, zeroMask_zero, selectCount_set, hc v second hne, hn, BitVec.ofNat_add]
  · rw [zeroMask_of_ne h, selectCount_clear, hc u first h, hfirst h]

section
variable {K : Nat} (x : BitVec (K + K))

theorem highHalf_toNat : (x.extractLsb' K K).toNat = x.toNat / 2 ^ K := by
  have hlt : x.toNat / 2 ^ K < 2 ^ K := Nat.div_lt_of_lt_mul (pow_add 2 K K ▸ x.isLt)
  rw [BitVec.extractLsb'_toNat, Nat.shiftRight_eq_div_pow, Nat.mod_eq_of_lt hlt]

theorem lowHalf_toNat : (x.extractLsb' 0 K).toNat = x.toNat % 2 ^ K := by
  rw [BitVec.extractLsb'_toNat, Nat.shiftRight_zero]

theorem highHalf_eq_zero_iff : x.extractLsb' K K = 0 ↔ x.toNat / 2 ^ K = 0 := by
  rw [← BitVec.toNat_inj, highHalf_toNat]
  rfl

theorem lowHalf_eq_zero_iff : x.extractLsb' 0 K = 0 ↔ x.toNat % 2 ^ K = 0 := by
  rw [← BitVec.toNat_inj, lowHalf_toNat]
  rfl

end

section
variable {K : Nat} {count : CountOfZero → BitVec K → BitVec 32} (v : CountOfZero → CountOfZero)

/-- The leading-zero composition starts from the high half (42_zero_count.md R92). -/
theorem Counts.leading (hc : Counts count (highZeros K)) :
    Counts (fun u (x : BitVec (K + K)) => selectCount (zeroMask (x.extractLsb' K K)) (count u (x.extractLsb' K K))
      (BitVec.ofNat 32 K + count (v u) (x.extractLsb' 0 K))) (highZeros (K + K)) := by
  intro u x hx
  have hx0 : x.toNat ≠ 0 := BitVec.toNat_ne_iff_ne.2 hx
  refine hc.select u (v u) (fun h => ?_) (fun h => ?_)
  · rw [highHalf_toNat, highZeros_of_high_ne_zero (mt (highHalf_eq_zero_iff x).2 h)]
  · have hlt : x.toNat < 2 ^ K := Nat.lt_of_div_eq_zero (Nat.two_pow_pos K) ((highHalf_eq_zero_iff x).1 h)
    rw [Ne, lowHalf_eq_zero_iff, lowHalf_toNat, Nat.mod_eq_of_lt hlt]
    exact ⟨hx0, highZeros_of_lt hx0 hlt⟩

/-- The trailing-zero composition starts from the low half (42_zero_count.md R93). -/
theorem Counts.trailing (hc : Counts count (lowZeros K)) :
    Counts (fun u (x : BitVec (K + K)) => selectCount (zeroMask (x.extractLsb' 0 K)) (count u (x.extractLsb' 0 K))
      (BitVec.ofNat 32 K + count (v u) (x.extractLsb' K K))) (lowZeros (K + K)) := by
  intro u x hx
  have hx0 : x.toNat ≠ 0 := BitVec.toNat_ne_iff_ne.2 hx
  refine hc.select u (v u) (fun h => ?_) (fun h => ?_)
  · rw [lowHalf_toNat, lowZeros_of_low_ne_zero _ _ (mt (lowHalf_eq_zero_iff x).2 h)]
  · have hmul : x.toNat = 2 ^ K * (x.toNat / 2 ^ K) :=
      (Nat.mul_div_cancel' (Nat.dvd_of_mod_eq_zero ((lowHalf_eq_zero_iff x).1 h))).symm
    rw [Ne, highHalf_eq_zero_iff, highHalf_toNat]
    refine ⟨right_ne_zero_of_mul (hmul ▸ hx0), ?_⟩
    rw [← lowZeros_two_pow_mul, ← hmul]

end

theorem clz64_counts : Counts clz64 (highZeros 64) := clz32_counts.leading fun u k => u (k + 1)

theorem clz128_counts : Counts clz128 (highZeros 128) := clz64_counts.leading fun u k => u (k + 2)

theorem ctz64_counts : Counts ctz64 (lowZeros 64) := ctz32_counts.trailing fun u k => u (k + 1)

theorem ctz128_counts : Counts ctz128 (lowZeros 128) := ctz64_counts.trailing fun u k => u (k + 2)

/-! ### Responses -/

section
variable {N : Nat} {count : CountOfZero → BitVec N → BitVec 32} {A : Word} (draw : Draw)

theorem zeroCount_of_ne_zero {f : Nat → Nat} (hc : Counts count f) (h : A.toNat % 2 ^ N ≠ 0)
    (hfits : f (A.toNat % 2 ^ N) < 2 ^ 32) :
    zeroCount N count draw A = .single (BitVec.ofNat 128 (f (A.toNat % 2 ^ N))) := by
  have hx : intOperand N A ≠ 0 := mt (intOperand_eq_zero_iff N A).1 h
  rw [← BitVec.setWidth_ofNat_of_le_of_lt (by decide : 32 ≤ 128) hfits, ← intOperand_toNat, ← hc _ _ hx]
  exact if_neg hx

theorem zeroCount_of_zero (h : A.toNat % 2 ^ N = 0) : zeroCount N count draw A = .violation (toPort (draw 32 0)) :=
  if_pos ((intOperand_eq_zero_iff N A).2 h)

end

/-! ### Operations -/

section
variable {w : Opcode} {i : Instr} {N : Nat} {count : CountOfZero → BitVec N → BitVec 32} (hw : decode w = .ok i)
  (hN : N < 2 ^ 32) (hexec : ∀ s, exec i s = complete s (zeroCount N count s.draws s.a))
include hw hN hexec

/-- An operation that completes with a leading-zero count is that of its word (42_zero_count.md R94 to R96). -/
theorem isClz_of_exec (hc : Counts count (highZeros N)) : IsClz w i N := by
  refine ⟨hw, fun s => ⟨fun h => ?_, fun h => answers_of_exec (hexec s) (zeroCount_of_zero _ h) rfl⟩⟩
  have hfits : highZeros N (s.a.toNat % 2 ^ N) < 2 ^ 32 := by rw [highZeros]; omega
  exact answers_of_exec (hexec s) (zeroCount_of_ne_zero _ hc h hfits) rfl

/-- An operation that completes with a trailing-zero count is that of its word (42_zero_count.md R97 to R99). -/
theorem isCtz_of_exec (hc : Counts count (lowZeros N)) : IsCtz w i N := by
  refine ⟨hw, fun s => ⟨fun h => ?_, fun h => answers_of_exec (hexec s) (zeroCount_of_zero _ h) rfl⟩⟩
  obtain ⟨hlt, hdvd, hmax⟩ := lowZeros_spec N _ h (Nat.mod_lt _ (Nat.two_pow_pos N))
  exact ⟨_, hlt, hdvd, hmax, answers_of_exec (hexec s) (zeroCount_of_ne_zero _ hc h (hlt.trans hN)) rfl⟩

end

/-! ### The statements -/

/-- Settles O36: each of the three words is that of an operation completing with a leading-zero count at its width. -/
theorem leadingZeroCounts : Obligations.LeadingZeroCounts :=
  ⟨isClz_of_exec rfl (by decide) (fun _ => rfl) clz32_counts, isClz_of_exec rfl (by decide) (fun _ => rfl) clz64_counts,
   isClz_of_exec rfl (by decide) (fun _ => rfl) clz128_counts⟩

/-- Settles O37: each of the three words is that of an operation completing with a trailing-zero count at its width. -/
theorem trailingZeroCounts : Obligations.TrailingZeroCounts :=
  ⟨isCtz_of_exec rfl (by decide) (fun _ => rfl) ctz32_counts, isCtz_of_exec rfl (by decide) (fun _ => rfl) ctz64_counts,
   isCtz_of_exec rfl (by decide) (fun _ => rfl) ctz128_counts⟩

end Sys2Proof.Machine
end

section
/-! PROOFS. Rounding (43_float_common.md R103, R104): the integer rounding is the guard, round and sticky rule, and it is `round_F` of
the exact rational. -/

namespace Sys2Proof.Machine

/-! ### Guard, round and sticky -/

/-- One more bit of the discarded part is the guard bit (43_float_common.md R104). -/
theorem mod_two_pow_succ_eq (c n : Nat) : c % 2 ^ (n + 1) = c % 2 ^ n + 2 ^ n * (c.testBit n).toNat := by
  rw [Nat.mod_pow_succ, Nat.toNat_testBit]

/-- Below the guard bit, round or sticky is set exactly when some discarded bit is (43_float_common.md R104). -/
theorem roundOrSticky_eq (c n : Nat) :
    (decide (2 ≤ n + 1) && c.testBit (n + 1 - 2) || c % 2 ^ (n + 1 - 2) != 0) = (c % 2 ^ n != 0) := by
  cases n with
  | zero => simp [Nat.mod_one]
  | succ n =>
    rw [mod_two_pow_succ_eq c n]
    obtain hb | hb := (c.testBit n).eq_false_or_eq_true <;> simp [hb]

/-- The nearest integer goes up exactly when the guard bit is set and the value lies past the tie or the quotient is odd
(43_float_common.md R104). -/
theorem roundShift_succ (c n : Nat) :
    roundShift c (n + 1) =
      c / 2 ^ (n + 1) + (c.testBit n && (c % 2 ^ n != 0 || (c / 2 ^ (n + 1)).testBit 0)).toNat := by
  have hlow : c % 2 ^ n < 2 ^ n := Nat.mod_lt _ (by positivity)
  rw [roundShift, mod_two_pow_succ_eq, Nat.testBit_zero]
  generalize c / 2 ^ (n + 1) = q
  generalize c % 2 ^ n = low at hlow ⊢
  rw [pow_succ']
  cases c.testBit n with
  | false => simp [hlow]
  | true =>
    obtain rfl | h0 := eq_or_ne low 0
    · obtain hq | hq := Nat.mod_two_eq_zero_or_one q <;> simp [hq]
    · simp [Nat.pos_of_ne_zero h0, bne_iff_ne.2 h0]

theorem roundShift_eq_guardRoundSticky {c d : Nat} (hd : 1 ≤ d) : roundShift c d = roundGuardRoundSticky c d := by
  obtain ⟨n, rfl⟩ : ∃ n, d = n + 1 := ⟨d - 1, by omega⟩
  rw [roundShift_succ, ← roundOrSticky_eq]
  rfl

/-! ### Rounding of rationals -/

/-- The distance of `c / 2^d` to the integer below it (43_float_common.md R103). -/
theorem div_two_pow_sub_floor (c d : Nat) : (c : ℚ) / 2 ^ d - (c / 2 ^ d : ℕ) = ((c % 2 ^ d : ℕ) : ℚ) / 2 ^ d := by
  have h : (c : ℚ) = 2 ^ d * (c / 2 ^ d : ℕ) + (c % 2 ^ d : ℕ) := by exact_mod_cast (Nat.div_add_mod c (2 ^ d)).symm
  have hp : (2 : ℚ) ^ d ≠ 0 := by positivity
  rw [sub_eq_iff_eq_add, div_eq_iff hp, add_mul, div_mul_cancel₀ _ hp]
  linarith

theorem nearestEven_div_two_pow (c d : Nat) : nearestEven ((c : ℚ) / 2 ^ d) = roundShift c d := by
  have hfloor : ⌊(c : ℚ) / 2 ^ d⌋₊ = c / 2 ^ d := by exact_mod_cast Nat.floor_div_eq_div (K := ℚ) c (2 ^ d)
  have hp : (0 : ℚ) < 2 ^ d := by positivity
  have hbelow : ((c % 2 ^ d : ℕ) : ℚ) / 2 ^ d < 1 / 2 ↔ 2 * (c % 2 ^ d) < 2 ^ d := by
    rw [div_lt_div_iff₀ hp two_pos, one_mul, mul_comm]; exact_mod_cast Iff.rfl
  have habove : 1 / 2 < ((c % 2 ^ d : ℕ) : ℚ) / 2 ^ d ↔ 2 ^ d < 2 * (c % 2 ^ d) := by
    rw [div_lt_div_iff₀ two_pos hp, one_mul, mul_comm]; exact_mod_cast Iff.rfl
  simp only [nearestEven, roundShift, hfloor, div_two_pow_sub_floor, gt_iff_lt, hbelow, habove]

/-- An integer is its own nearest integer. -/
theorem nearestEven_natCast (n : Nat) : nearestEven (n : ℚ) = n := by
  simpa using nearestEven_div_two_pow n 0

/-! ### The exact rational of a magnitude -/

theorem Magnitude.value_eq_zero_iff (x : Magnitude) : x.value = 0 ↔ x.coeff = 0 := by
  have hp : (2 : ℚ) ^ x.exp ≠ 0 := by positivity
  simp [Magnitude.value, hp]

/-- `floor(log2)` of a nonzero magnitude (43_float_common.md R103). -/
theorem Magnitude.log_value {x : Magnitude} (h : x.coeff ≠ 0) : Int.log 2 x.value = (Nat.log2 x.coeff : Int) + x.exp := by
  have hexp : (0 : ℚ) < 2 ^ x.exp := by positivity
  have hpos : 0 < x.value := mul_pos (by exact_mod_cast Nat.pos_of_ne_zero h) hexp
  have hlow : (2 : ℚ) ^ ((Nat.log2 x.coeff : Int) + x.exp) ≤ x.value := by
    rw [zpow_add₀ two_ne_zero, zpow_natCast, Magnitude.value]
    exact mul_le_mul_of_nonneg_right (by exact_mod_cast Nat.log2_self_le h) hexp.le
  have hhigh : x.value < (2 : ℚ) ^ ((Nat.log2 x.coeff : Int) + x.exp + 1) := by
    rw [add_right_comm, zpow_add₀ two_ne_zero, Magnitude.value]
    exact mul_lt_mul_of_pos_right (by exact_mod_cast Nat.lt_log2_self (n := x.coeff)) hexp
  have h1 := (Int.zpow_le_iff_le_log one_lt_two hpos).1 (by exact_mod_cast hlow)
  have h2 := (Int.lt_zpow_iff_log_lt one_lt_two hpos).1 (by exact_mod_cast hhigh)
  omega

/-- In units of the quantum `2^(k - T)`, a magnitude is an integer or an integer with discarded bits; either way its nearest integer
is the rounded significand (43_float_common.md R103). -/
theorem nearestEven_value_div (F : FloatFormat) (k : Int) (x : Magnitude) :
    nearestEven (x.value / (2 : ℚ) ^ (k - F.significandBits)) = roundedSignificand F k x := by
  have hscale : x.value / (2 : ℚ) ^ (k - F.significandBits) = x.coeff * (2 : ℚ) ^ (x.exp - (k - F.significandBits)) := by
    rw [Magnitude.value, mul_div_assoc, ← zpow_sub₀ two_ne_zero]
  rw [hscale, roundedSignificand]
  generalize x.exp - (k - F.significandBits) = up
  obtain hup | hup := le_or_gt 0 up
  · lift up to ℕ using hup
    simpa using nearestEven_natCast (x.coeff * 2 ^ up)
  · obtain ⟨d, rfl⟩ : ∃ d : ℕ, up = -d := ⟨up.natAbs, by omega⟩
    rw [if_neg (not_le.2 hup), neg_neg, Int.toNat_natCast, zpow_neg, zpow_natCast, ← div_eq_mul_inv]
    exact nearestEven_div_two_pow x.coeff d

theorem roundFloat_eq_roundRational (F : FloatFormat) (s : Bool) (x : Magnitude) :
    roundFloat F s x = roundRational F s x.value := by
  by_cases h : x.coeff = 0
  · rw [roundFloat, roundRational, if_pos h, if_pos (x.value_eq_zero_iff.2 h)]
  · rw [roundFloat, roundRational, if_neg h, if_neg (mt x.value_eq_zero_iff.1 h)]
    simp only [quantumExponent, Magnitude.log_value h, nearestEven_value_div]

/-! ### The statements -/

/-- Settles O42: bits below the guard decide between tie and no tie, and the remainder of `c / 2^d` is compared with its half. -/
theorem guardRoundStickyAgrees : Obligations.GuardRoundStickyAgrees :=
  fun c d hd => ⟨roundShift_eq_guardRoundSticky hd, (nearestEven_div_two_pow c d).symm⟩

/-- Settles O41: the logarithm and the rounded significand of the exact rational are those of its coefficient and exponent. -/
theorem roundingIsExactRational : Obligations.RoundingIsExactRational :=
  fun F _ s x => roundFloat_eq_roundRational F s x

end Sys2Proof.Machine
end

section
/-! PROOFS. The class of every float result (43_float_common.md R100, R102, R108, R110): zero, subnormal, Normal, infinity or quiet NaN,
and in F80 canonical, because every operation ends in one of the special encodings or in the tail of the rounding. -/

namespace Sys2Proof.Machine

/-! ### Classes of composed encodings -/

/-- A stored integer bit adds nothing to the fraction (30_encoding.md R55, R56). -/
theorem integerBit_add_mod (F : FloatFormat) {f : Nat} (hf : f < 2 ^ F.significandBits) :
    (F.integerBit + f) % 2 ^ F.significandBits = f := by
  cases hJ : F.hasImplicitBit <;> simp [FloatFormat.integerBit, hJ, Nat.mod_eq_of_lt hf]

/-- An integer bit of 1 under an exponent field above 0 is canonical: the class is that of a format without one (43_float_common.md
R100). -/
theorem classify_encodeFloat_of_pos {F : FloatFormat} (hF : F.Valid) (s : Bool) {e f : Nat} (h0 : e ≠ 0)
    (he : e < 2 ^ F.exponentBits) (hf : f < 2 ^ F.significandBits) :
    classify F (encodeFloat F s e (F.integerBit + f)) =
      if e < F.emaxField then .normal
      else if f = 0 then .infinity
      else if f.testBit (F.significandBits - 1) then .quietNaN else .signallingNaN := by
  have hs := integerBit_add_lt F hf
  have hcanonical : (!F.hasImplicitBit && explicitBit F (encodeFloat F s e (F.integerBit + f)) != (e != 0)) = false := by
    cases hJ : F.hasImplicitBit with
    | true => rfl
    | false =>
      rw [explicitBit_encodeFloat hF hJ he hs]
      simp [FloatFormat.integerBit, hJ, h0]
  rw [classify, exponentField_encodeFloat hF he hs, fractionField_encodeFloat hF he hs, integerBit_add_mod F hf, hcanonical]
  simp [h0]

/-- An integer bit of 0 under an exponent field of 0 is canonical (43_float_common.md R100). -/
theorem classify_encodeFloat_of_zero {F : FloatFormat} (hF : F.Valid) (s : Bool) {f : Nat} (hf : f < 2 ^ F.significandBits) :
    classify F (encodeFloat F s 0 f) = if f = 0 then .zero else .subnormal := by
  have he : 0 < 2 ^ F.exponentBits := by positivity
  have hs : f < 2 ^ F.storedBits :=
    hf.trans_le (Nat.pow_le_pow_right (by decide) (significandBits_le_storedBits F))
  have hcanonical : (!F.hasImplicitBit && explicitBit F (encodeFloat F s 0 f) != (0 != 0)) = false := by
    cases hJ : F.hasImplicitBit with
    | true => rfl
    | false => simp [explicitBit_encodeFloat hF hJ he hs, hf]
  rw [classify, exponentField_encodeFloat hF he hs, fractionField_encodeFloat hF he hs, Nat.mod_eq_of_lt hf, hcanonical]
  simp

section
variable {F : FloatFormat} (hF : F.Valid)
include hF

theorem emaxField_pos : 0 < F.emaxField :=
  Nat.sub_pos_of_lt (Nat.one_lt_two_pow (by have := hF.exponent; omega))

/-- The greatest exponent field of a finite number is the one below that of infinity (00_scope.md R6). -/
theorem two_mul_bias_lt_emaxField : 2 * F.bias < F.emaxField := by
  have hexp : 2 ^ F.exponentBits = 2 * 2 ^ (F.exponentBits - 1) := by
    rw [← pow_succ', Nat.sub_add_cancel (by have := hF.exponent; omega)]
  have hpos : 0 < 2 ^ (F.exponentBits - 1) := by positivity
  rw [hF.bias, FloatFormat.emaxField, hexp]
  omega

@[simp] theorem classify_floatZero (s : Bool) : classify F (floatZero F s) = .zero := by
  rw [floatZero, classify_encodeFloat_of_zero hF s (by positivity), if_pos rfl]

@[simp] theorem floatSign_floatZero (s : Bool) : floatSign F (floatZero F s) = s :=
  floatSign_encodeFloat hF (by positivity) (by positivity)

@[simp] theorem classify_floatInfinity (s : Bool) : classify F (floatInfinity F s) = .infinity := by
  have h := classify_encodeFloat_of_pos hF s (emaxField_pos hF).ne' (emaxField_lt F) (f := 0) (by positivity)
  rwa [if_neg (lt_irrefl _), if_pos rfl] at h

@[simp] theorem floatSign_floatInfinity (s : Bool) : floatSign F (floatInfinity F s) = s :=
  floatSign_floatNaN hF (f := 0) (by positivity)

/-- The quiet bit makes a fraction that of a quiet NaN (43_float_common.md R108). -/
theorem classify_floatNaN (s : Bool) {f : Nat} (hf : f < 2 ^ F.significandBits)
    (hq : f.testBit (F.significandBits - 1) = true) : classify F (floatNaN F s f) = .quietNaN := by
  have h0 : f ≠ 0 := by rintro rfl; simp at hq
  rw [floatNaN, classify_encodeFloat_of_pos hF s (emaxField_pos hF).ne' (emaxField_lt F) hf, if_neg (lt_irrefl _), if_neg h0,
    if_pos hq]

@[simp] theorem classify_defaultNaN : classify F (defaultNaN F) = .quietNaN :=
  classify_floatNaN hF _ (quietBit_lt hF) Nat.testBit_two_pow_self

@[simp] theorem classify_freeQuietNaN (s : Bool) (p : Word) : classify F (freeQuietNaN F s p) = .quietNaN := by
  have hlow : p.toNat % F.quietBit < F.quietBit := Nat.mod_lt _ (Nat.two_pow_pos _)
  refine classify_floatNaN hF s (freeFraction_bounds hF _).2 ?_
  rw [FloatFormat.quietBit] at hlow ⊢
  rw [Nat.testBit_two_pow_add_eq, Nat.testBit_lt_two_pow hlow]
  rfl

/-- A fraction carried through a conversion makes a quiet NaN (43_float_common.md R106). -/
theorem classify_convertNaN (S : FloatFormat) (exact : Bool) (draw : Draw) (v : Word) :
    classify F (convertNaN S F exact draw v) = .quietNaN := by
  unfold convertNaN
  split
  · refine classify_floatNaN hF _ (convertedFraction_lt hF (BitVec.isLt _)) ?_
    unfold convertedFraction
    split <;> simp [FloatFormat.quietBit]
  · exact classify_freeQuietNaN hF _ _

/-! ### The quiet bit set in an operand -/

omit hF in
/-- The quiet bit's weight has no other bit (43_float_common.md R108). -/
theorem getLsbD_quietBit {k : Nat} (hk : k ≠ F.significandBits - 1) : (BitVec.ofNat 128 F.quietBit).getLsbD k = false := by
  rw [BitVec.getLsbD_ofNat, FloatFormat.quietBit, Nat.testBit_two_pow_of_ne hk.symm, Bool.and_false]

/-- An operand is its port in the bits of its format (30_encoding.md R53). -/
theorem floatOperand_low (v : Word) : (floatOperand F.totalBits v).toNat % 2 ^ F.totalBits = v.toNat % 2 ^ F.totalBits := by
  rw [floatOperand_toNat _ _ hF.fits, Nat.mod_mod]

theorem exponentField_quieted (v : Word) : exponentField F (quieted F v) = exponentField F v := by
  have hq : (BitVec.ofNat 128 F.quietBit).extractLsb' F.storedBits F.exponentBits = 0#_ := by
    apply BitVec.eq_of_getLsbD_eq
    intro k hk
    have hne : F.storedBits + k ≠ F.significandBits - 1 := by
      have := hF.fraction; have := significandBits_le_storedBits F; omega
    simp [getLsbD_quietBit hne]
  rw [exponentField, quieted, BitVec.extractLsb'_or, hq, BitVec.or_zero]
  exact exponentField_congr hF (floatOperand_low hF v)

theorem explicitBit_quieted (v : Word) : explicitBit F (quieted F v) = explicitBit F v := by
  have hne : F.significandBits ≠ F.significandBits - 1 := by have := hF.fraction; omega
  rw [explicitBit, quieted, BitVec.getLsbD_or, getLsbD_quietBit hne, Bool.or_false]
  exact explicitBit_congr hF (floatOperand_low hF v)

theorem fractionField_quieted (v : Word) : fractionField F (quieted F v) = fractionField F v ||| F.quietBit := by
  have hq : fractionField F (BitVec.ofNat 128 F.quietBit) = F.quietBit := by
    have hlt := quietBit_lt hF
    have hT : F.significandBits ≤ 128 := by
      have := hF.total; have := hF.fits; have := significandBits_le_storedBits F; omega
    rw [fractionField, BitVec.extractLsb'_toNat, Nat.shiftRight_zero, BitVec.toNat_ofNat,
      Nat.mod_mod_of_dvd _ (Nat.pow_dvd_pow 2 hT), Nat.mod_eq_of_lt hlt]
  have hv := fractionField_congr hF (floatOperand_low hF v)
  rw [← hv, fractionField, quieted, BitVec.extractLsb'_or, BitVec.toNat_or]
  exact congrArg _ hq

end

/-- The classes of a NaN are those of the last exponent field with a fraction, canonical in F80 (43_float_common.md R100). -/
theorem fields_of_isNaN {F : FloatFormat} {v : Word} (h : (classify F v).isNaN = true) :
    (!F.hasImplicitBit && explicitBit F v != (exponentField F v != 0)) = false ∧ exponentField F v ≠ 0 ∧
      ¬ exponentField F v < F.emaxField := by
  simp only [classify] at h
  split_ifs at h <;> simp_all [FloatClass.isNaN]

theorem classify_quieted {F : FloatFormat} (hF : F.Valid) {v : Word} (h : (classify F v).isNaN = true) :
    classify F (quieted F v) = .quietNaN := by
  obtain ⟨hcanonical, h0, hmax⟩ := fields_of_isNaN h
  have hq : (fractionField F v ||| F.quietBit).testBit (F.significandBits - 1) = true := by simp [FloatFormat.quietBit]
  have hf : fractionField F v ||| F.quietBit ≠ 0 := fun h => by rw [h] at hq; simp at hq
  rw [classify, exponentField_quieted hF, explicitBit_quieted hF, fractionField_quieted hF, hcanonical]
  simp [h0, hmax, hf, hq]

/-! ### The tail of the rounding -/

/-- What the tail of `round_F` can give: infinity, a Normal encoding or one without exponent (43_float_common.md R103). -/
theorem finishRound_cases {F : FloatFormat} (hF : F.Valid) (s : Bool) {k : Int} {m : Nat} (hk : F.emin ≤ k)
    (hm : m ≤ 2 ^ (F.significandBits + 1)) :
    finishRound F s k m = floatInfinity F s ∨
    (∃ e f, e ≠ 0 ∧ e < F.emaxField ∧ f < 2 ^ F.significandBits ∧ finishRound F s k m = encodeFloat F s e (F.integerBit + f)) ∨
    (∃ f, f < 2 ^ F.significandBits ∧ finishRound F s k m = encodeFloat F s 0 f) := by
  have hp : 2 ^ (F.significandBits + 1) = 2 * 2 ^ F.significandBits := pow_succ' ..
  have hpos : 0 < 2 ^ F.significandBits := by positivity
  have hmax := two_mul_bias_lt_emaxField hF
  simp only [finishRound]
  generalize hm' : (if m = 2 ^ (F.significandBits + 1) then 2 ^ F.significandBits else m) = m'
  generalize hk' : (if m = 2 ^ (F.significandBits + 1) then k + 1 else k) = k'
  have hlt : m' < 2 ^ (F.significandBits + 1) := by split_ifs at hm' <;> omega
  have hmin : F.emin ≤ k' := by split_ifs at hk' <;> omega
  have hemin : F.emin = 1 - F.bias := rfl
  have hemax : F.emax = F.bias := rfl
  split_ifs with hover hnormal
  · exact .inl rfl
  · exact .inr (.inl ⟨(k' + F.bias).toNat, m' - 2 ^ F.significandBits, by omega, by omega, by omega, rfl⟩)
  · exact .inr (.inr ⟨m', by omega, rfl⟩)

/-! ### Classes of results -/

/-- A class a result can have: not that of a signalling NaN, and in F80 canonical (43_float_common.md R108, R110). -/
def FloatClass.isResult (c : FloatClass) : Bool := !(c == .signallingNaN || c == .nonCanonical)

theorem FloatClass.isResult_iff (c : FloatClass) : c.isResult = true ↔ c ≠ .signallingNaN ∧ c ≠ .nonCanonical := by
  cases c <;> decide

/-- A conversion breaks its precondition exactly for a non-canonical operand (43_float_common.md R111). -/
theorem floatConvert_pv_iff (S D : FloatFormat) (exact : Bool) (draw : Draw) (A : Word) :
    (floatConvert S D exact draw A).pv = true ↔ classify S A = .nonCanonical := by
  unfold floatConvert
  split <;> simp_all [Response.violation, Response.single]

section
variable {F : FloatFormat} (hF : F.Valid)
include hF

theorem finishRound_isResult (s : Bool) {k : Int} {m : Nat} (hk : F.emin ≤ k) (hm : m ≤ 2 ^ (F.significandBits + 1)) :
    (classify F (finishRound F s k m)).isResult = true := by
  obtain h | ⟨e, f, h0, he, hf, h⟩ | ⟨f, hf, h⟩ := finishRound_cases hF s hk hm <;> rw [h]
  · rw [classify_floatInfinity hF]; rfl
  · rw [classify_encodeFloat_of_pos hF s h0 (he.trans (emaxField_lt F)) hf, if_pos he]; rfl
  · rw [classify_encodeFloat_of_zero hF s hf]; split <;> rfl

theorem floatZero_isResult (s : Bool) : (classify F (floatZero F s)).isResult = true := by
  rw [classify_floatZero hF]; rfl

theorem roundFloat_isResult (s : Bool) (x : Magnitude) : (classify F (roundFloat F s x)).isResult = true := by
  unfold roundFloat
  split
  · exact floatZero_isResult hF s
  · exact finishRound_isResult hF s (le_max_right _ _) (roundedSignificand_le F x)

theorem integerToFloat_isResult {N : Nat} (signed : Bool) (x : BitVec N) :
    (classify F (integerToFloat N F signed x)).isResult = true := by
  unfold integerToFloat
  split
  · exact floatZero_isResult hF _
  · exact roundFloat_isResult hF _ _

theorem floatConvert_isResult (S : FloatFormat) (exact : Bool) (draw : Draw) {A : Word} (hA : classify S A ≠ .nonCanonical) :
    (classify F (floatConvert S F exact draw A).r0).isResult = true := by
  cases hc : classify S A <;> simp only [floatConvert, hc, Response.single]
  case nonCanonical => exact absurd hc hA
  case quietNaN => rw [classify_convertNaN hF]; rfl
  case signallingNaN => rw [classify_convertNaN hF]; rfl
  case infinity => rw [classify_floatInfinity hF]; rfl
  case zero => exact floatZero_isResult hF _
  case subnormal => exact roundFloat_isResult hF _ _
  case normal => exact roundFloat_isResult hF _ _

/-- A multiplication's NaN is quiet, whatever NAN_PAYLOAD_EXACT, when the stated one is (43_float_common.md R107). -/
theorem multiplyNaN_isResult (exact : Bool) (draw : Draw) {v : Word} (hv : classify F v = .quietNaN) :
    (classify F (multiplyNaN F exact draw v)).isResult = true := by
  cases exact
  · rw [multiplyNaN, if_neg Bool.false_ne_true, classify_freeQuietNaN hF]; rfl
  · rw [multiplyNaN, if_pos rfl, hv]; rfl

theorem multiplyFloat_isResult (exact : Bool) (draw : Draw) (a b : Word) :
    (classify F (multiplyFloat F exact draw a b)).isResult = true := by
  simp only [multiplyFloat]
  split_ifs with ha hb
  · exact multiplyNaN_isResult hF _ _ (classify_quieted hF ha)
  · exact multiplyNaN_isResult hF _ _ (classify_quieted hF hb)
  · exact multiplyNaN_isResult hF _ _ (classify_defaultNaN hF)
  · rw [classify_floatInfinity hF]; rfl
  · exact floatZero_isResult hF _
  · exact roundFloat_isResult hF _ _

end

/-! ### The float operations -/

/-- The result of a float operation that breaks no precondition has a class a result can have (43_float_common.md R108, R110). -/
theorem meaning_isResult {i : Instr} {f : Draw → Word → Word → Response} (hf : MeaningOf i f) (hi : 3 ≤ familyOf i)
    {draw : Draw} {A B : Word} (hpv : (f draw A B).pv = false) :
    (classify (resultFormat i) (f draw A B).r0).isResult = true := by
  have hD := resultFormat_valid i
  cases hf with
  | udivmod hfam | udiv hfam | umod hfam | sdivmod hfam | sdiv hfam | smod hfam | zeroCount hfam => omega
  | intToFloat => exact integerToFloat_isResult hD _ _
  | floatConvert =>
    exact floatConvert_isResult hD _ _ _ fun hA => by
      rw [(floatConvert_pv_iff _ _ _ _ _).2 hA] at hpv; cases hpv
  | floatMultiply hfam =>
    rw [resultFormat_of_multiply hfam]
    exact multiplyFloat_isResult (operandFormat_valid i) _ _ _ _

/-- A conversion to F80 has an operand of another format, whose integer bit is implicit (30_encoding.md R49). -/
theorem operandFormat_of_convert_to_F80 {i : Instr} (hfam : familyOf i = 4) (hD : resultFormat i = F80) :
    (operandFormat i).hasImplicitBit = true := by
  revert hfam hD
  cases i <;> decide

theorem classify_ne_nonCanonical {F : FloatFormat} (hJ : F.hasImplicitBit = true) (v : Word) :
    classify F v ≠ .nonCanonical := by
  simp only [classify, hJ]
  split_ifs <;> simp_all

/-- No operation with an F80 result has a precondition its operand can break (43_float_common.md R111). -/
theorem meaning_pv_of_F80 {i : Instr} {f : Draw → Word → Word → Response} (hf : MeaningOf i f) (hi : 3 ≤ familyOf i)
    (hD : resultFormat i = F80) (draw : Draw) (A B : Word) : (f draw A B).pv = false := by
  cases hf with
  | udivmod hfam | udiv hfam | umod hfam | sdivmod hfam | sdiv hfam | smod hfam | zeroCount hfam => omega
  | intToFloat => rfl
  | floatConvert hfam =>
    have hA := classify_ne_nonCanonical (operandFormat_of_convert_to_F80 hfam hD) A
    exact Bool.eq_false_iff.2 (mt (floatConvert_pv_iff _ _ _ _ _).1 hA)
  | floatMultiply => rfl

/-- In a canonical encoding J is 1 exactly from the first Normal number up (43_float_common.md R100). -/
theorem explicitBit_of_canonical {F : FloatFormat} (hJ : F.hasImplicitBit = false) {v : Word}
    (h : classify F v ≠ .nonCanonical) :
    (explicitBit F v = true ↔ classify F v = .normal ∨ classify F v = .infinity ∨ (classify F v).isNaN = true) ∧
    (explicitBit F v = false ↔ classify F v = .zero ∨ classify F v = .subnormal) := by
  simp only [classify, hJ] at h ⊢
  split_ifs at h ⊢ <;> simp_all [FloatClass.isNaN]

theorem valid_of_mem_allFormats {F : FloatFormat} (h : F ∈ allFormats) : F.Valid := by
  simp only [allFormats, List.mem_cons, List.not_mem_nil, or_false] at h
  obtain rfl | rfl | rfl | rfl := h
  exacts [F32_valid, F64_valid, F80_valid, F128_valid]

/-! ### The statements -/

/-- Settles O40: the table by evaluation; class, sign and width of the zeros and infinities as encodings of every valid format. -/
theorem specialEncodings : Obligations.SpecialEncodings := by
  refine ⟨by decide +kernel, fun F hmem s => ?_⟩
  have hF := valid_of_mem_allFormats hmem
  exact ⟨classify_floatZero hF s, floatSign_floatZero hF s, classify_floatInfinity hF s, floatSign_floatInfinity hF s,
    floatInfinity_lt hF s, classify_defaultNaN hF⟩

/-- Settles O44: the class of every result without violation is one a result can have, which no signalling NaN's is. -/
theorem naNResultsAreQuiet : Obligations.NaNResultsAreQuiet := by
  refine ⟨by decide, fun i s t hi ht hpv => ?_⟩
  obtain ⟨f, hf, hexec⟩ := exec_meaning i
  rw [hexec] at ht
  cases ht
  rw [State.completed_pv] at hpv
  exact ((FloatClass.isResult_iff _).1 (meaning_isResult hf hi hpv)).1

/-- Settles O45: an operation with an F80 result breaks no precondition, so its result is canonical, and there J tells the classes
apart. -/
theorem f80ResultsAreCanonical : Obligations.F80ResultsAreCanonical := by
  intro i s t hi hD ht
  obtain ⟨f, hf, hexec⟩ := exec_meaning i
  rw [hexec] at ht
  cases ht
  have hresult := meaning_isResult hf hi (meaning_pv_of_F80 hf hi hD s.draws s.a s.b)
  rw [hD] at hresult
  exact explicitBit_of_canonical rfl ((FloatClass.isResult_iff _).1 hresult).2

end Sys2Proof.Machine
end

section
/-! PROOFS. Integer to float (44_int_to_float.md R113, R116 to R139): the converter rounds the exact rational of the integer its operand
denotes, and each of the 24 operations completes with that. -/

namespace Sys2Proof.Machine

/-! ### The integer an operand denotes -/

section
variable (N : Nat) (signed : Bool) (p : Word)

/-- The sign the converter takes is that of the integer (44_int_to_float.md R113). -/
theorem integerSign_intOperand : integerSign signed (intOperand N p) = decide (integerOf N signed p < 0) := by
  cases signed with
  | false => exact (decide_eq_false (Int.natCast_nonneg _).not_gt).symm
  | true => exact BitVec.msb_eq_toInt

/-- The magnitude the converter rounds is that of the integer (44_int_to_float.md R113). -/
theorem integerMagnitude_intOperand :
    (integerMagnitude signed (intOperand N p)).toNat = (integerOf N signed p).natAbs := by
  cases signed with
  | false => exact (integerMagnitude_unsigned _).trans (intOperand_toNat N p)
  | true => exact integerMagnitude_signed _

theorem intOperand_eq_zero_iff_integerOf : intOperand N p = 0 ↔ integerOf N signed p = 0 := by
  cases signed with
  | false => exact (intOperand_eq_zero_iff N p).trans Int.natCast_eq_zero.symm
  | true => exact intOperand_eq_zero_iff_signedOf N p

/-- An integer is a magnitude of exponent 0. -/
theorem Magnitude.value_natCast (n : Nat) : (⟨n, 0⟩ : Magnitude).value = n := by simp [Magnitude.value]

/-- `itof` is the integer's value, rounded once; its case of zero is +0, which rounding gives too (44_int_to_float.md R113). -/
theorem integerToFloat_eq_roundRational (F : FloatFormat) :
    integerToFloat N F signed (intOperand N p) =
      roundRational F (decide (integerOf N signed p < 0)) ((integerOf N signed p).natAbs : ℚ) := by
  rw [integerToFloat]
  split_ifs with hx
  · have hzero : integerOf N signed p = 0 := (intOperand_eq_zero_iff_integerOf N signed p).1 hx
    simp [hzero, roundRational]
  · rw [integerSign_intOperand, integerMagnitude_intOperand, roundFloat_eq_roundRational, Magnitude.value_natCast]

end

/-! ### Operations -/

/-- An operation that completes with `intToFloat` is the conversion of its word (44_int_to_float.md R116 to R139). -/
theorem isIntToFloat_of_exec {w : Opcode} {i : Instr} {N : Nat} {signed : Bool} {F : FloatFormat} (hw : decode w = .ok i)
    (h : ∀ s, exec i s = complete s (intToFloat N F signed s.a)) : IsIntToFloat w i N signed F :=
  ⟨hw, fun s => answers_of_exec (h s) (congrArg Response.single (integerToFloat_eq_roundRational N signed s.a F)) rfl⟩

/-! ### The statements -/

/-- Settles O47: each of the twelve words is that of an operation completing with the signed `intToFloat` of its width and format. -/
theorem signedIntToFloat : Obligations.SignedIntToFloat := by
  refine ⟨?_, ?_, ?_, ?_, ?_, ?_, ?_, ?_, ?_, ?_, ?_, ?_⟩ <;> exact isIntToFloat_of_exec rfl fun _ => rfl

/-- Settles O48: each of the twelve words is that of an operation completing with the unsigned `intToFloat` of its width and
format. -/
theorem unsignedIntToFloat : Obligations.UnsignedIntToFloat := by
  refine ⟨?_, ?_, ?_, ?_, ?_, ?_, ?_, ?_, ?_, ?_, ?_, ?_⟩ <;> exact isIntToFloat_of_exec rfl fun _ => rfl

end Sys2Proof.Machine
end

section
/-! PROOFS. The finite numbers of a format (43_float_common.md R101, R103): the magnitude of an encoding, and the rounding of such a
magnitude, which discards nothing. -/

namespace Sys2Proof.Machine

/-! ### Fields of a finite operand -/

theorem exponentField_of_normal {F : FloatFormat} {v : Word} (h : classify F v = .normal) :
    exponentField F v ≠ 0 ∧ exponentField F v < F.emaxField := by
  simp only [classify] at h
  split_ifs at h with hc he hf hmax
  exact ⟨he, hmax⟩

theorem fields_of_subnormal {F : FloatFormat} {v : Word} (h : classify F v = .subnormal) :
    exponentField F v = 0 ∧ fractionField F v ≠ 0 := by
  simp only [classify] at h
  split_ifs at h with hc he hf
  exact ⟨he, hf⟩

theorem fields_of_zero {F : FloatFormat} {v : Word} (h : classify F v = .zero) :
    exponentField F v = 0 ∧ fractionField F v = 0 := by
  simp only [classify] at h
  split_ifs at h with hc he hf
  exact ⟨he, hf⟩

theorem fractionField_lt (F : FloatFormat) (v : Word) : fractionField F v < 2 ^ F.significandBits := BitVec.isLt _

/-- A fraction alone fits below the exponent field (30_encoding.md R55, R56). -/
theorem lt_two_pow_storedBits {F : FloatFormat} {f : Nat} (hf : f < 2 ^ F.significandBits) : f < 2 ^ F.storedBits :=
  hf.trans_le (Nat.pow_le_pow_right (by decide) (significandBits_le_storedBits F))

theorem FloatClass.isFinite_iff (c : FloatClass) : c.isFinite = true ↔ c = .zero ∨ c = .subnormal ∨ c = .normal := by
  cases c <;> decide

/-! ### Magnitudes and values -/

theorem magnitude_of_exponent_zero {F : FloatFormat} {v : Word} (h : exponentField F v = 0) :
    magnitude F v = ⟨fractionField F v, F.emin - F.significandBits⟩ := if_pos h

theorem magnitude_of_exponent_pos {F : FloatFormat} {v : Word} (h : exponentField F v ≠ 0) :
    magnitude F v = ⟨2 ^ F.significandBits + fractionField F v, (exponentField F v : Int) - F.bias - F.significandBits⟩ :=
  if_neg h

section
variable {F : FloatFormat} (hF : F.Valid) (s : Bool)
include hF

theorem magnitude_encodeFloat_of_pos {e f : Nat} (h0 : e ≠ 0) (he : e < 2 ^ F.exponentBits) (hf : f < 2 ^ F.significandBits) :
    magnitude F (encodeFloat F s e (F.integerBit + f)) =
      ⟨2 ^ F.significandBits + f, (e : Int) - F.bias - F.significandBits⟩ := by
  have hs := integerBit_add_lt F hf
  have hexp := exponentField_encodeFloat hF (s := s) he hs
  rw [magnitude_of_exponent_pos (hexp.trans_ne h0), hexp, fractionField_encodeFloat hF he hs, integerBit_add_mod F hf]

theorem magnitude_encodeFloat_of_zero {f : Nat} (hf : f < 2 ^ F.significandBits) :
    magnitude F (encodeFloat F s 0 f) = ⟨f, F.emin - F.significandBits⟩ := by
  have he : 0 < 2 ^ F.exponentBits := by positivity
  have hs := lt_two_pow_storedBits hf
  rw [magnitude_of_exponent_zero (exponentField_encodeFloat hF he hs), fractionField_encodeFloat hF he hs, Nat.mod_eq_of_lt hf]

end

/-- The absolute value of a float is its magnitude's (43_float_common.md R101). -/
theorem abs_floatValue (F : FloatFormat) (v : Word) : |floatValue F v| = (magnitude F v).value := by
  have hpos : 0 ≤ (magnitude F v).value := by unfold Magnitude.value; positivity
  cases h : floatSign F v <;> simp [floatValue, h, abs_of_nonneg hpos]

theorem floatValue_of_zero {F : FloatFormat} {v : Word} (h : classify F v = .zero) : floatValue F v = 0 := by
  obtain ⟨he, hf⟩ := fields_of_zero h
  simp [floatValue, magnitude_of_exponent_zero he, Magnitude.value, hf]

/-- Sign and magnitude determine the value (43_float_common.md R101). -/
theorem floatValue_congr {F G : FloatFormat} {v w : Word} (hs : floatSign F v = floatSign G w)
    (hm : (magnitude F v).value = (magnitude G w).value) : floatValue F v = floatValue G w := by
  rw [floatValue, floatValue, hs, hm]

/-! ### Numbers of a format -/

/-- `x` is the magnitude of a nonzero finite number of `F`: at most T + 1 significant bits, none below the least subnormal, and no
more than the greatest exponent (43_float_common.md R101). -/
structure Magnitude.FitsIn (x : Magnitude) (F : FloatFormat) : Prop where
  nonzero : x.coeff ≠ 0
  short : x.coeff < 2 ^ (F.significandBits + 1)
  least : F.emin - F.significandBits ≤ x.exp
  greatest : (Nat.log2 x.coeff : Int) + x.exp ≤ F.emax

/-- The exponent field of infinity in terms of the bias (00_scope.md R6). -/
theorem emaxField_eq {F : FloatFormat} (hF : F.Valid) : F.emaxField = 2 * F.bias + 1 := by
  have hexp : 2 ^ F.exponentBits = 2 * 2 ^ (F.exponentBits - 1) := by
    rw [← pow_succ', Nat.sub_add_cancel (by have := hF.exponent; omega)]
  have hpos : 0 < 2 ^ (F.exponentBits - 1) := by positivity
  rw [hF.bias, FloatFormat.emaxField, hexp]
  omega

theorem emin_le_emax {F : FloatFormat} (hF : F.Valid) : F.emin ≤ F.emax := by
  have hpow : 2 ^ 1 ≤ 2 ^ (F.exponentBits - 1) := Nat.pow_le_pow_right (by decide) (by have := hF.exponent; omega)
  have hbias := hF.bias
  simp only [FloatFormat.emin, FloatFormat.emax]
  omega

/-- A subnormal fraction has no bit at T or above (43_float_common.md R100). -/
theorem log2_fractionField_lt {F : FloatFormat} {v : Word} (h : fractionField F v ≠ 0) :
    Nat.log2 (fractionField F v) < F.significandBits :=
  (Nat.log2_lt h).2 (fractionField_lt F v)

theorem log2_normal_coeff (F : FloatFormat) (v : Word) :
    Nat.log2 (2 ^ F.significandBits + fractionField F v) = F.significandBits := by
  have hf := fractionField_lt F v
  have hp : 2 ^ (F.significandBits + 1) = 2 * 2 ^ F.significandBits := pow_succ' ..
  exact (Nat.log2_eq_iff (by positivity)).2 ⟨by omega, by omega⟩

/-- The magnitude of a nonzero finite operand is one of its format (43_float_common.md R101). -/
theorem magnitude_fitsIn {F : FloatFormat} (hF : F.Valid) {v : Word}
    (h : classify F v = .subnormal ∨ classify F v = .normal) : (magnitude F v).FitsIn F := by
  have hf := fractionField_lt F v
  have hp : 2 ^ (F.significandBits + 1) = 2 * 2 ^ F.significandBits := pow_succ' ..
  have hemin : F.emin = 1 - F.bias := rfl
  have hemax : F.emax = F.bias := rfl
  obtain h | h := h
  · obtain ⟨he, h0⟩ := fields_of_subnormal h
    have hlog := log2_fractionField_lt h0
    rw [magnitude_of_exponent_zero he]
    constructor <;> dsimp only <;> omega
  · obtain ⟨h0, hmax⟩ := exponentField_of_normal h
    rw [emaxField_eq hF] at hmax
    have hlog := log2_normal_coeff F v
    rw [magnitude_of_exponent_pos h0]
    constructor <;> dsimp only <;> omega

/-! ### Rounding discards nothing from a number of the format -/

/-- A coefficient moved up by `u` has `u` more bits. -/
theorem log2_mul_two_pow {c : Nat} (u : Nat) (h : c ≠ 0) : Nat.log2 (c * 2 ^ u) = Nat.log2 c + u := by
  induction u with
  | zero => simp
  | succ u ih =>
    have hcu : c * 2 ^ u ≠ 0 := by positivity
    rw [pow_succ', Nat.mul_left_comm, Nat.log2_two_mul hcu, ih, Nat.add_assoc]

section
variable {F : FloatFormat} (hF : F.Valid) (s : Bool)
include hF

/-- The tail of `round_F` gives the significand at its exponent unchanged when nothing carries or overflows, and a significand below
2^T comes only with the least exponent (43_float_common.md R103). -/
theorem finishRound_exact {k : Int} {m : Nat} (hmin : F.emin ≤ k) (hmax : k ≤ F.emax) (h0 : m ≠ 0)
    (hm : m < 2 ^ (F.significandBits + 1)) (hk : 2 ^ F.significandBits ≤ m ∨ k = F.emin) :
    floatSign F (finishRound F s k m) = s ∧
    magnitude F (finishRound F s k m) = ⟨m, k - F.significandBits⟩ ∧
    classify F (finishRound F s k m) = if 2 ^ F.significandBits ≤ m then .normal else .subnormal := by
  have hp : 2 ^ (F.significandBits + 1) = 2 * 2 ^ F.significandBits := pow_succ' ..
  have hemin : F.emin = 1 - F.bias := rfl
  have hemax : F.emax = F.bias := rfl
  have hmaxField := emaxField_eq hF
  simp only [finishRound, hm.ne, if_false, hmax.not_gt]
  split_ifs with hnormal
  · have he0 : (k + F.bias).toNat ≠ 0 := by omega
    have he : (k + F.bias).toNat < F.emaxField := by omega
    have hlt := he.trans (emaxField_lt F)
    have hf : m - 2 ^ F.significandBits < 2 ^ F.significandBits := by omega
    refine ⟨floatSign_encodeFloat hF hlt (integerBit_add_lt F hf), ?_, ?_⟩
    · rw [magnitude_encodeFloat_of_pos hF s he0 hlt hf, Magnitude.mk.injEq]
      omega
    · rw [classify_encodeFloat_of_pos hF s he0 hlt hf, if_pos he]
  · have hf : m < 2 ^ F.significandBits := by omega
    obtain rfl : k = F.emin := by omega
    refine ⟨floatSign_encodeFloat hF (by positivity) (lt_two_pow_storedBits hf), magnitude_encodeFloat_of_zero hF s hf, ?_⟩
    rw [classify_encodeFloat_of_zero hF s hf, if_neg h0]

omit hF in
/-- A number of the format is a whole number of quanta (43_float_common.md R103). -/
theorem roundedSignificand_of_fitsIn {x : Magnitude} (hx : x.FitsIn F) :
    ∃ u : ℕ, x.exp = quantumExponent F x - F.significandBits + u ∧
      roundedSignificand F (quantumExponent F x) x = x.coeff * 2 ^ u := by
  obtain ⟨h0, hshort, hleast, -⟩ := hx
  have hlog : Nat.log2 x.coeff < F.significandBits + 1 := (Nat.log2_lt h0).2 hshort
  have hup : 0 ≤ x.exp - (quantumExponent F x - F.significandBits) := by
    simp only [quantumExponent]; omega
  exact ⟨(x.exp - (quantumExponent F x - F.significandBits)).toNat, by omega, if_pos hup⟩

/-- Rounding a number of the format gives that number (43_float_common.md R103). -/
theorem roundFloat_of_fitsIn {x : Magnitude} (hx : x.FitsIn F) :
    floatSign F (roundFloat F s x) = s ∧ (magnitude F (roundFloat F s x)).value = x.value ∧
    classify F (roundFloat F s x) = if F.emin ≤ (Nat.log2 x.coeff : Int) + x.exp then .normal else .subnormal := by
  obtain ⟨u, hu, hm⟩ := roundedSignificand_of_fitsIn hx
  obtain ⟨h0, hshort, hleast, hgreatest⟩ := hx
  have hm0 : x.coeff * 2 ^ u ≠ 0 := by positivity
  have hlog := log2_mul_two_pow u h0
  have hk : quantumExponent F x = max ((Nat.log2 x.coeff : Int) + x.exp) F.emin := rfl
  have hlt : x.coeff * 2 ^ u < 2 ^ (F.significandBits + 1) := (Nat.log2_lt hm0).1 (by omega)
  have hnormal : 2 ^ F.significandBits ≤ x.coeff * 2 ^ u ↔ F.emin ≤ (Nat.log2 x.coeff : Int) + x.exp := by
    rw [← Nat.le_log2 hm0]; omega
  have hrange : F.emin ≤ F.emax := emin_le_emax hF
  obtain ⟨hs, hmag, hc⟩ := finishRound_exact hF s (k := quantumExponent F x) (by omega) (by omega) hm0 hlt (by omega)
  have hround : roundFloat F s x = finishRound F s (quantumExponent F x) (x.coeff * 2 ^ u) := by
    rw [← hm]; exact if_neg h0
  rw [hround]
  refine ⟨hs, ?_, by simp only [hc, hnormal]⟩
  have hexp : quantumExponent F x - F.significandBits = x.exp - u := by omega
  rw [hmag, hexp, Magnitude.value, Magnitude.value, zpow_sub₀ two_ne_zero, zpow_natCast]
  push_cast
  field_simp

end

end Sys2Proof.Machine
end

section
/-! PROOFS. Float to float (45_float_convert.md R140, R141, R144 to R155): the converter answers each class of operand as R140 says, and
a finite operand of an extension is a number of the destination, which rounding keeps. -/

namespace Sys2Proof.Machine

/-! ### NaNs through a conversion -/

/-- The fraction the converter carries is that of R106 written with shifts (43_float_common.md R106). -/
theorem convertedFraction_eq_carriedFraction (S D : FloatFormat) (f : Nat) :
    convertedFraction S D f = carriedFraction S D f := by
  rw [convertedFraction, carriedFraction, Nat.shiftRight_eq_div_pow, Nat.shiftLeft_eq]
  split <;> rfl

theorem floatSign_convertNaN {D : FloatFormat} (hD : D.Valid) (S : FloatFormat) (exact : Bool) (draw : Draw) (v : Word) :
    floatSign D (convertNaN S D exact draw v) = floatSign S v := by
  unfold convertNaN
  split
  · exact floatSign_floatNaN hD (convertedFraction_lt hD (fractionField_lt S v))
  · exact floatSign_freeQuietNaN hD _ _

/-- A NaN has the fraction it is given, whether or not the format stores an integer bit above it (43_float_common.md R106, R110). -/
theorem fractionField_floatNaN {F : FloatFormat} (hF : F.Valid) (s : Bool) {f : Nat} (hf : f < 2 ^ F.significandBits) :
    fractionField F (floatNaN F s f) = f :=
  (fractionField_encodeFloat hF (emaxField_lt F) (integerBit_add_lt F hf)).trans (integerBit_add_mod F hf)

/-- Where NAN_PAYLOAD_EXACT holds, the payload is carried (43_float_common.md R106). -/
theorem fractionField_convertNaN {D : FloatFormat} (hD : D.Valid) (S : FloatFormat) (draw : Draw) (v : Word) :
    fractionField D (convertNaN S D true draw v) = carriedFraction S D (fractionField S v) := by
  rw [convertNaN, if_pos rfl, fractionField_floatNaN hD _ (convertedFraction_lt hD (fractionField_lt S v)),
    convertedFraction_eq_carriedFraction]

/-! ### The response by the class of the operand -/

section
variable {S : FloatFormat} (D : FloatFormat) (exact : Bool) (draw : Draw) {v : Word}

theorem floatConvert_of_nonCanonical (h : classify S v = .nonCanonical) :
    floatConvert S D exact draw v = .violation (toPort (draw D.totalBits 0)) := by
  simp only [floatConvert, h]

theorem floatConvert_of_isNaN (h : classify S v = .quietNaN ∨ classify S v = .signallingNaN) :
    floatConvert S D exact draw v = .single (convertNaN S D exact draw v) := by
  obtain h | h := h <;> simp only [floatConvert, h]

theorem floatConvert_of_infinity (h : classify S v = .infinity) :
    floatConvert S D exact draw v = .single (floatInfinity D (floatSign S v)) := by
  simp only [floatConvert, h]

theorem floatConvert_of_zero (h : classify S v = .zero) :
    floatConvert S D exact draw v = .single (floatZero D (floatSign S v)) := by
  simp only [floatConvert, h]

theorem floatConvert_of_finite (h : classify S v = .subnormal ∨ classify S v = .normal) :
    floatConvert S D exact draw v = .single (roundFloat D (floatSign S v) (magnitude S v)) := by
  obtain h | h := h <;> simp only [floatConvert, h]

end

/-! ### Operations -/

/-- An operation that completes with `floatConvert` is the conversion of its word (45_float_convert.md R140, R144 to R155). -/
theorem isFloatConvert_of_exec {w : Opcode} {i : Instr} {S D : FloatFormat} (hw : decode w = .ok i) (hD : D.Valid)
    (h : ∀ s, exec i s = complete s (floatConvert S D Config.nanPayloadExact s.draws s.a)) : IsFloatConvert w i S D := by
  refine ⟨hw, fun s => ⟨fun hc => ?_, fun hc => ?_, fun hc => ?_, fun hc => ?_, fun hc => ?_⟩⟩
  · exact answers_of_exec (h s) (floatConvert_of_nonCanonical D _ _ hc) rfl
  · refine ⟨_, answers_of_exec (h s) (floatConvert_of_isNaN D _ _ hc) rfl, classify_convertNaN hD _ _ _ _,
      floatSign_convertNaN hD _ _ _ _, convertNaN_lt hD _ _ _ _, fun hexact => ?_⟩
    rw [hexact]
    exact fractionField_convertNaN hD S s.draws s.a
  · exact answers_of_exec (h s) (floatConvert_of_infinity D _ _ hc) rfl
  · exact answers_of_exec (h s) (floatConvert_of_zero D _ _ hc) rfl
  · rw [abs_floatValue, ← roundFloat_eq_roundRational]
    exact answers_of_exec (h s) (floatConvert_of_finite D _ _ hc) rfl

/-! ### Extensions -/

/-- Every number of `S` is a number of `D` (45_float_convert.md R141). -/
structure FloatFormat.ExtendsTo (S D : FloatFormat) : Prop where
  source : S.Valid
  destination : D.Valid
  significand : S.significandBits ≤ D.significandBits
  least : D.emin - D.significandBits ≤ S.emin - S.significandBits
  greatest : S.emax ≤ D.emax

theorem Magnitude.FitsIn.extend {x : Magnitude} {S D : FloatFormat} (h : S.ExtendsTo D) (hx : x.FitsIn S) : x.FitsIn D where
  nonzero := hx.nonzero
  short := hx.short.trans_le (Nat.pow_le_pow_right (by decide) (Nat.succ_le_succ h.significand))
  least := h.least.trans hx.least
  greatest := hx.greatest.trans h.greatest

section
variable {S D : FloatFormat} (h : S.ExtendsTo D) (exact : Bool) (draw : Draw) {v : Word}
include h

/-- An extension keeps sign and value of a finite operand (45_float_convert.md R141). -/
theorem floatConvert_extend (hv : (classify S v).isFinite = true) :
    (classify D (floatConvert S D exact draw v).r0).isFinite = true ∧
    floatValue D (floatConvert S D exact draw v).r0 = floatValue S v ∧
    floatSign D (floatConvert S D exact draw v).r0 = floatSign S v := by
  obtain hv | hv := (FloatClass.isFinite_iff _).1 hv
  · have hzero := classify_floatZero h.destination (floatSign S v)
    rw [floatConvert_of_zero D _ _ hv, floatValue_of_zero hv]
    exact ⟨congrArg FloatClass.isFinite hzero, floatValue_of_zero hzero, floatSign_floatZero h.destination _⟩
  · obtain ⟨hs, hm, hc⟩ := roundFloat_of_fitsIn h.destination (floatSign S v) ((magnitude_fitsIn h.source hv).extend h)
    rw [floatConvert_of_finite D _ _ hv]
    refine ⟨?_, floatValue_congr hs hm, hs⟩
    rw [Response.single, hc]
    split <;> rfl

/-- The result of a subnormal operand is Normal exactly when the operand's highest bit reaches the least Normal exponent of the
destination (45_float_convert.md R141). -/
theorem classify_floatConvert_subnormal (hv : classify S v = .subnormal) :
    classify D (floatConvert S D exact draw v).r0 =
      if D.emin ≤ (Nat.log2 (fractionField S v) : Int) + (S.emin - S.significandBits) then .normal else .subnormal := by
  obtain ⟨-, -, hc⟩ :=
    roundFloat_of_fitsIn h.destination (floatSign S v) ((magnitude_fitsIn h.source (.inl hv)).extend h)
  rw [floatConvert_of_finite D _ _ (.inl hv), Response.single, hc, magnitude_of_exponent_zero (fields_of_subnormal hv).1]

/-- A subnormal operand becomes Normal where the least subnormal of the source does (45_float_convert.md R141). -/
theorem classify_floatConvert_subnormal_of_le (hmin : D.emin ≤ S.emin - S.significandBits) (hv : classify S v = .subnormal) :
    classify D (floatConvert S D exact draw v).r0 = .normal := by
  rw [classify_floatConvert_subnormal h exact draw hv, if_pos (by omega)]

/-- A subnormal operand stays subnormal where the least Normal exponent is the same (45_float_convert.md R141). -/
theorem classify_floatConvert_subnormal_of_eq (hmin : D.emin = S.emin) (hv : classify S v = .subnormal) :
    classify D (floatConvert S D exact draw v).r0 = .subnormal := by
  have hlog := log2_fractionField_lt (fields_of_subnormal hv).2
  rw [classify_floatConvert_subnormal h exact draw hv, if_neg (by omega)]

end

/-- The extending pairs of formats (45_float_convert.md R141). -/
def extendingPairs : List (FloatFormat × FloatFormat) :=
  [(F32, F64), (F32, F80), (F32, F128), (F64, F80), (F64, F128), (F80, F128)]

/-- The constants of the extending pairs (00_scope.md R6). -/
theorem extendingPairs_constants : ∀ P ∈ extendingPairs,
    P.1 ∈ allFormats ∧ P.2 ∈ allFormats ∧ P.1.significandBits ≤ P.2.significandBits ∧
    P.2.emin - P.2.significandBits ≤ P.1.emin - P.1.significandBits ∧ P.1.emax ≤ P.2.emax ∧
    if P = (F80, F128) then P.2.emin = P.1.emin else P.2.emin ≤ P.1.emin - P.1.significandBits := by
  decide

/-! ### The statements -/

/-- Settles O51: each of the six words is that of an operation completing with `floatConvert` between its formats. -/
theorem floatExtensions : Obligations.FloatExtensions :=
  ⟨isFloatConvert_of_exec rfl F64_valid fun _ => rfl, isFloatConvert_of_exec rfl F80_valid fun _ => rfl,
   isFloatConvert_of_exec rfl F128_valid fun _ => rfl, isFloatConvert_of_exec rfl F80_valid fun _ => rfl,
   isFloatConvert_of_exec rfl F128_valid fun _ => rfl, isFloatConvert_of_exec rfl F128_valid fun _ => rfl⟩

/-- Settles O52: each of the six words is that of an operation completing with `floatConvert` between its formats. -/
theorem floatTruncations : Obligations.FloatTruncations :=
  ⟨isFloatConvert_of_exec rfl F32_valid fun _ => rfl, isFloatConvert_of_exec rfl F32_valid fun _ => rfl,
   isFloatConvert_of_exec rfl F64_valid fun _ => rfl, isFloatConvert_of_exec rfl F32_valid fun _ => rfl,
   isFloatConvert_of_exec rfl F64_valid fun _ => rfl, isFloatConvert_of_exec rfl F80_valid fun _ => rfl⟩

/-- Settles O53: a number of the source format is one of the destination's, so rounding discards nothing; F80 and F128 share their
least Normal exponent, and in every other extension the destination's is no more than the exponent of the least subnormal of the source. -/
theorem extensionsAreExact : Obligations.ExtensionsAreExact := by
  intro P hP exact draw v hv
  obtain ⟨hS, hD, hsig, hleast, hgreatest, hmin⟩ := extendingPairs_constants P hP
  have h : P.1.ExtendsTo P.2 :=
    ⟨valid_of_mem_allFormats hS, valid_of_mem_allFormats hD, hsig, hleast, hgreatest⟩
  obtain ⟨hfinite, hvalue, hsign⟩ := floatConvert_extend h exact draw hv
  refine ⟨hfinite, hvalue, hsign, fun hsub => ?_⟩
  split_ifs at hmin ⊢
  · exact classify_floatConvert_subnormal_of_eq h exact draw hmin hsub
  · exact classify_floatConvert_subnormal_of_le h exact draw hmin hsub

end Sys2Proof.Machine
end

section
/-! PROOFS. Float multiplication (46_float_multiply.md R156, R160 to R163): the multiplier answers each pair of operand classes as R156
says, each of the three operations completes with that, and the word an F80 multiply would have is reserved. -/

namespace Sys2Proof.Machine

/-! ### Reserved words -/

/-- A request whose word does not decode is answered with two draws and ILL (60_exceptions.md R166). -/
theorem responds_of_decode_error {s : State} {e : Reserved} (h : decode s.op = .error e) :
    ∃ t, executeLatched s = .next t ∧ Responds s t (drawn s 128 0) (drawn s 128 1) false true := by
  obtain ⟨x, hx, ⟨i, hi, -⟩ | ⟨-, -, rfl⟩⟩ := executeLatched_responds s
  · rw [h] at hi; cases hi
  · exact ⟨_, hx, by simp [Responds, illegalResponse, drawn, State.draws]⟩

/-! ### Classes of operands -/

@[simp] theorem FloatClass.isNaN_infinity : FloatClass.infinity.isNaN = false := rfl
@[simp] theorem FloatClass.isNaN_zero : FloatClass.zero.isNaN = false := rfl

/-- A finite operand is neither a NaN nor infinity (43_float_common.md R100, R101). -/
theorem FloatClass.not_special_of_isFinite {c : FloatClass} (h : c.isFinite = true) : c.isNaN = false ∧ c ≠ .infinity := by
  obtain rfl | rfl | rfl := (FloatClass.isFinite_iff c).1 h <;> decide

/-- A finite nonzero operand is none of the special cases of a product (46_float_multiply.md R156). -/
theorem FloatClass.not_special_of_nonzero {c : FloatClass} (h : c = .subnormal ∨ c = .normal) :
    c.isNaN = false ∧ c ≠ .infinity ∧ c ≠ .zero := by
  obtain rfl | rfl := h <;> decide

/-! ### The product by the classes of its operands -/

section
variable {F : FloatFormat} (exact : Bool) (draw : Draw) {a b : Word}

theorem multiplyFloat_of_isNaN_left (ha : (classify F a).isNaN = true) :
    multiplyFloat F exact draw a b = multiplyNaN F exact draw (quieted F a) := if_pos ha

theorem multiplyFloat_of_isNaN_right (ha : (classify F a).isNaN = false) (hb : (classify F b).isNaN = true) :
    multiplyFloat F exact draw a b = multiplyNaN F exact draw (quieted F b) := by
  simp [multiplyFloat, ha, hb]

theorem multiplyFloat_of_infinity_zero
    (h : (classify F a = .infinity ∧ classify F b = .zero) ∨ (classify F a = .zero ∧ classify F b = .infinity)) :
    multiplyFloat F exact draw a b = multiplyNaN F exact draw (defaultNaN F) := by
  obtain ⟨ha, hb⟩ | ⟨ha, hb⟩ := h <;> simp [multiplyFloat, ha, hb]

theorem multiplyFloat_of_infinity
    (h : (classify F a = .infinity ∧ (classify F b).isNaN = false ∧ classify F b ≠ .zero) ∨
      (classify F b = .infinity ∧ (classify F a).isNaN = false ∧ classify F a ≠ .zero)) :
    multiplyFloat F exact draw a b = floatInfinity F (productSign F a b) := by
  obtain ⟨hinf, hnan, h0⟩ | ⟨hinf, hnan, h0⟩ := h <;> simp [multiplyFloat, productSign, hinf, hnan, h0]

theorem multiplyFloat_of_zero
    (h : (classify F a = .zero ∧ (classify F b).isFinite = true) ∨ (classify F b = .zero ∧ (classify F a).isFinite = true)) :
    multiplyFloat F exact draw a b = floatZero F (productSign F a b) := by
  obtain ⟨h0, hfin⟩ | ⟨h0, hfin⟩ := h <;> obtain ⟨hnan, hinf⟩ := FloatClass.not_special_of_isFinite hfin <;>
    simp [multiplyFloat, productSign, h0, hnan, hinf]

theorem multiplyFloat_of_nonzero (ha : classify F a = .subnormal ∨ classify F a = .normal)
    (hb : classify F b = .subnormal ∨ classify F b = .normal) :
    multiplyFloat F exact draw a b = roundFloat F (productSign F a b) ((magnitude F a).mul (magnitude F b)) := by
  obtain ⟨hanan, hainf, ha0⟩ := FloatClass.not_special_of_nonzero ha
  obtain ⟨hbnan, hbinf, hb0⟩ := FloatClass.not_special_of_nonzero hb
  simp [multiplyFloat, productSign, hanan, hainf, ha0, hbnan, hbinf, hb0]

end

/-- The product of magnitudes is exact (46_float_multiply.md R157). -/
theorem Magnitude.value_mul (x y : Magnitude) : (x.mul y).value = x.value * y.value := by
  simp only [Magnitude.value, Magnitude.mul, zpow_add₀ (two_ne_zero (α := ℚ)), Nat.cast_mul]
  ring

/-! ### NaN results -/

section
variable {F : FloatFormat} (hF : F.Valid)
include hF

theorem quieted_toNat (v : Word) : (quieted F v).toNat = v.toNat % 2 ^ F.totalBits ||| 2 ^ (F.significandBits - 1) := by
  have hq : F.quietBit < 2 ^ 128 :=
    Nat.pow_lt_pow_right (by decide)
      (by have := hF.total; have := hF.fits; have := significandBits_le_storedBits F; omega)
  rw [quieted, BitVec.toNat_or, floatOperand_toNat _ _ hF.fits, BitVec.toNat_ofNat, Nat.mod_eq_of_lt hq, FloatFormat.quietBit]

@[simp] theorem floatSign_defaultNaN : floatSign F (defaultNaN F) = false := floatSign_floatNaN hF (quietBit_lt hF)

theorem defaultNaN_lt : (defaultNaN F).toNat < 2 ^ F.totalBits := floatNaN_lt hF _ (quietBit_lt hF)

theorem classify_multiplyNaN (exact : Bool) (draw : Draw) {v : Word} (hv : classify F v = .quietNaN) :
    classify F (multiplyNaN F exact draw v) = .quietNaN := by
  cases exact with
  | false => exact classify_freeQuietNaN hF _ _
  | true => exact hv

section
variable {i : Instr} {s : State} {v : Word}
  (hexec : exec i s = complete s (floatMultiply F Config.nanPayloadExact s.draws s.a s.b))
include hexec

/-- An operation that completes with the NaN result for `v` answers `v` where NAN_PAYLOAD_EXACT holds, and a quiet NaN of its sign in any
case (43_float_common.md R107; 00_scope.md R7). -/
theorem answers_multiplyNaN
    (hmul : multiplyFloat F Config.nanPayloadExact s.draws s.a s.b = multiplyNaN F Config.nanPayloadExact s.draws v)
    (hv : classify F v = .quietNaN) (hlt : v.toNat < 2 ^ F.totalBits) :
    ∃ r, Answers i s r 0 false ∧ classify F r = .quietNaN ∧ floatSign F r = floatSign F v ∧ r.toNat < 2 ^ F.totalBits ∧
      (Config.nanPayloadExact = true → r = v) :=
  ⟨_, answers_of_exec hexec (congrArg Response.single hmul) rfl, classify_multiplyNaN hF _ _ hv, floatSign_multiplyNaN hF _ _ _,
    multiplyNaN_lt hF _ _ hlt, fun hexact => if_pos hexact⟩

/-- The same for the quieted NaN of an operand `v`, stated of `v` itself (43_float_common.md R107). -/
theorem answers_quieted
    (hmul : multiplyFloat F Config.nanPayloadExact s.draws s.a s.b = multiplyNaN F Config.nanPayloadExact s.draws (quieted F v))
    (hv : (classify F v).isNaN = true) :
    ∃ r, Answers i s r 0 false ∧ classify F r = .quietNaN ∧ floatSign F r = floatSign F v ∧ r.toNat < 2 ^ F.totalBits ∧
      (Config.nanPayloadExact = true → r.toNat = v.toNat % 2 ^ F.totalBits ||| 2 ^ (F.significandBits - 1)) := by
  rw [← quieted_toNat hF, ← floatSign_quieted hF v]
  obtain ⟨r, hans, hquiet, hsign, hlt, hexact⟩ :=
    answers_multiplyNaN hF hexec hmul (classify_quieted hF hv) (quieted_lt hF v)
  exact ⟨r, hans, hquiet, hsign, hlt, fun h => congrArg _ (hexact h)⟩

end

/-! ### Operations -/

/-- An operation that completes with `floatMultiply` is the multiplication of its word (46_float_multiply.md R156, R160 to R162). -/
theorem isFloatMultiply_of_exec {w : Opcode} {i : Instr} (hw : decode w = .ok i)
    (h : ∀ s, exec i s = complete s (floatMultiply F Config.nanPayloadExact s.draws s.a s.b)) : IsFloatMultiply w i F := by
  refine ⟨hw, fun s => ⟨fun ha => ?_, fun ha hb => ?_, fun hc => ?_, fun hc => ?_, fun hc => ?_, fun ha hb => ?_⟩⟩
  · exact answers_quieted hF (h s) (multiplyFloat_of_isNaN_left _ _ ha) ha
  · exact answers_quieted hF (h s) (multiplyFloat_of_isNaN_right _ _ ha hb) hb
  · have hans := answers_multiplyNaN hF (h s) (multiplyFloat_of_infinity_zero _ _ hc) (classify_defaultNaN hF) (defaultNaN_lt hF)
    rwa [floatSign_defaultNaN hF] at hans
  · exact answers_of_exec (h s) (congrArg Response.single (multiplyFloat_of_infinity _ _ hc)) rfl
  · exact answers_of_exec (h s) (congrArg Response.single (multiplyFloat_of_zero _ _ hc)) rfl
  · rw [abs_floatValue, abs_floatValue, ← Magnitude.value_mul, ← roundFloat_eq_roundRational]
    exact answers_of_exec (h s) (congrArg Response.single (multiplyFloat_of_nonzero _ _ ha hb)) rfl

end

/-! ### The statements -/

/-- Settles O54: each of the three words is that of an operation completing with `floatMultiply` in its format. -/
theorem floatMultiplications : Obligations.FloatMultiplications :=
  ⟨isFloatMultiply_of_exec F32_valid rfl fun _ => rfl, isFloatMultiply_of_exec F64_valid rfl fun _ => rfl,
   isFloatMultiply_of_exec F128_valid rfl fun _ => rfl⟩

/-- Settles O4: the zero word is of no family, and the word an F80 multiply would have names a format without a multiplier, so both are
reserved. -/
theorem zeroWordAndF80MultiplyAreIllegal : Obligations.ZeroWordAndF80MultiplyAreIllegal := by
  intro s hop
  obtain hop | hop := hop
  · exact responds_of_decode_error (e := .family) (by rw [hop]; rfl)
  · exact responds_of_decode_error (e := .noF80Multiply) (by rw [hop]; rfl)

end Sys2Proof.Machine
end

section
/-! PROOFS. Exceptions (60_exceptions.md R164 to R171): PV is the broken precondition of the operation, ILL the reserved word, both are
kept in their sticky bits, and every execution responds. -/

namespace Sys2Proof.Machine

/-! ### Executions of the latched request -/

/-- What every execution of a latched request ends in: a response, illegal exactly for a reserved word (60_exceptions.md R167,
R169). -/
theorem executeLatched_eq_next {s t : State} (h : executeLatched s = .next t) :
    ∃ x : Response, t = s.completed x ∧ (x.ill = true ↔ ∃ e, decode s.op = .error e) := by
  obtain ⟨x, hx, hcases⟩ := executeLatched_responds s
  rw [hx] at h
  cases h
  refine ⟨x, rfl, ?_⟩
  obtain ⟨i, hi, hill⟩ | ⟨e, he, rfl⟩ := hcases
  · simp [hill, hi]
  · simp [illegalResponse, he]

theorem executeLatched_phase {s t : State} (h : executeLatched s = .next t) : t.phase = .done := by
  obtain ⟨x, rfl, -⟩ := executeLatched_eq_next h
  exact State.completed_phase s x

/-- A step that executes takes the injected fault or executes the latched request (10_state.md R29; 60_exceptions.md R169). -/
theorem step_of_execution {s t : State} (h : step s = .next t) (hrst : s.input.rst = false) (hp : s.phase = .busy)
    (hw : s.nextInputs.keepsWaiting s.input = false) :
    t = s.nextInputs.aborted ∨ executeLatched s.nextInputs = .next t := by
  rw [step_of_running (step_cases h).1 hrst, phaseStep_busy (s := s.nextInputs) hp, hw] at h
  cases ha : s.input.abort with
  | true => rw [ha] at h; cases h; exact .inl rfl
  | false => rw [ha] at h; exact .inr h

/-- HALTED is entered by the injected fault alone (60_exceptions.md R169). -/
theorem step_into_halted {s t : State} (h : step s = .next t) (ht : t.phase = .halted) (hs : s.phase ≠ .halted) :
    s.phase = .busy ∧ s.input.rst = false ∧ s.input.abort = true := by
  obtain ⟨-, ⟨-, rfl⟩ | ⟨hrst, hphase⟩⟩ := step_cases h
  · cases ht
  obtain ⟨-, -, rfl⟩ | ⟨-, -, rfl⟩ | ⟨-, -, rfl⟩ | ⟨hp, -, ha, -⟩ | ⟨-, -, -, hx⟩ | ⟨-, -, rfl⟩ | ⟨-, -, rfl⟩ | ⟨hp, -⟩ := hphase
  · cases ht
  · exact absurd ht hs
  · exact absurd ht hs
  · exact ⟨hp, hrst, ha⟩
  · rw [executeLatched_phase hx] at ht; cases ht
  · cases ht
  · exact absurd ht hs
  · exact absurd hp hs

/-- No step without reset clears PVS or ILLS (60_exceptions.md R165, R167). -/
theorem step_keeps_sticky {s t : State} (h : step s = .next t) (hrst : s.input.rst = false) :
    (s.pvs = true → t.pvs = true) ∧ (s.ills = true → t.ills = true) := by
  by_cases hexec : s.phase = .busy ∧ s.nextInputs.keepsWaiting s.input = false
  · obtain ⟨hp, hw⟩ := hexec
    obtain rfl | hx := step_of_execution h hrst hp hw
    · simp
    · obtain ⟨x, rfl, -⟩ := executeLatched_eq_next hx
      simp +contextual
  · obtain ⟨-, -, -, -, hstatus⟩ := step_keeps_results h hrst hexec
    simp [State.pvs, State.ills, hstatus]

/-! ### Broken preconditions -/

section
variable {i : Instr} (s : State)

theorem breaksPrecondition_of_division (h : familyOf i = 1) :
    BreaksPrecondition i s ↔ s.b.toNat % 2 ^ operandBits i = 0 := by simp [BreaksPrecondition, h]

theorem breaksPrecondition_of_zeroCount (h : familyOf i = 2) :
    BreaksPrecondition i s ↔ s.a.toNat % 2 ^ operandBits i = 0 := by simp [BreaksPrecondition, h]

theorem not_breaksPrecondition_of_intToFloat (h : familyOf i = 3) : ¬ BreaksPrecondition i s := by
  simp [BreaksPrecondition, h]

theorem not_breaksPrecondition_of_multiply (h : familyOf i = 5) : ¬ BreaksPrecondition i s := by
  simp [BreaksPrecondition, h]

/-- Of the float operands only those of F80 have an explicit integer bit (30_encoding.md R48, R56). -/
theorem src_of_explicit_bit (h : (operandFormat i).hasImplicitBit = false) : (opWordOf i).src = 2 := by
  revert h
  cases i <;> decide

/-- A conversion's precondition names F80, the one format with non-canonical encodings (43_float_common.md R100, R111). -/
theorem breaksPrecondition_of_convert (h : familyOf i = 4) :
    BreaksPrecondition i s ↔ classify (operandFormat i) s.a = .nonCanonical := by
  have hF80 (hsrc : (opWordOf i).src = 2) : operandFormat i = F80 := by rw [operandFormat, hsrc]; rfl
  constructor
  · rintro (⟨hfam, -⟩ | ⟨hfam, -⟩ | ⟨-, hsrc, hA⟩)
    · omega
    · omega
    · rwa [hF80 hsrc]
  · intro hA
    have hsrc := src_of_explicit_bit (Bool.eq_false_iff.2 fun hJ => classify_ne_nonCanonical hJ s.a hA)
    rw [hF80 hsrc] at hA
    exact .inr (.inr ⟨h, hsrc, hA⟩)

end

/-- A response that is a violation exactly where an integer operand is 0 has PV exactly there. -/
theorem pv_ite_intOperand {N : Nat} {p : Word} {x y : Response} (hx : x.pv = true) (hy : y.pv = false) :
    (if intOperand N p = 0 then x else y).pv = true ↔ p.toNat % 2 ^ N = 0 := by
  rw [← intOperand_eq_zero_iff]
  split
  · exact iff_of_true hx ‹_›
  · exact iff_of_false (by simp [hy]) ‹_›

/-- An operation's response has PV exactly when the latched operands break its precondition (60_exceptions.md R164). -/
theorem meaning_pv_iff {i : Instr} {f : Draw → Word → Word → Response} (hf : MeaningOf i f) (draw : Draw) (s : State) :
    (f draw s.a s.b).pv = true ↔ BreaksPrecondition i s := by
  cases hf with
  | udivmod hfam | udiv hfam | umod hfam | sdivmod hfam | sdiv hfam | smod hfam =>
    rw [breaksPrecondition_of_division s hfam]
    exact pv_ite_intOperand rfl rfl
  | zeroCount hfam =>
    rw [breaksPrecondition_of_zeroCount s hfam]
    exact pv_ite_intOperand rfl rfl
  | intToFloat hfam => exact iff_of_false Bool.false_ne_true (not_breaksPrecondition_of_intToFloat s hfam)
  | floatConvert hfam =>
    rw [breaksPrecondition_of_convert s hfam]
    exact floatConvert_pv_iff _ _ _ _ _
  | floatMultiply hfam => exact iff_of_false Bool.false_ne_true (not_breaksPrecondition_of_multiply s hfam)

/-! ### The statements -/

/-- Settles O17: every execution completes, so of the steps into HALTED only that with the injected fault is left. -/
theorem noExecutionHalts : Obligations.NoExecutionHalts := by
  refine ⟨fun s => ?_, fun _ _ => step_into_halted⟩
  obtain ⟨x, hx, -⟩ := executeLatched_responds s
  exact ⟨_, hx, State.completed_phase s x⟩

/-- Settles O18: an execution writes the PV of its operation's response, and that of the illegal response is 0. -/
theorem pvExactlyOnBrokenPreconditions : Obligations.PvExactlyOnBrokenPreconditions := by
  constructor
  · intro i s t ht
    obtain ⟨f, hf, hexec⟩ := exec_meaning i
    rw [hexec] at ht
    cases ht
    rw [State.completed_pv]
    exact meaning_pv_iff hf s.draws s
  · intro s t e he ht
    obtain ⟨u, hu, -, -, -, -, -, hpv, -⟩ := responds_of_decode_error he
    rw [hu] at ht
    cases ht
    exact hpv

/-- Settles O19: an execution is a completed response, whose sticky bits gather PV and ILL; the other steps without reset keep
STATUS or set HALT in it. -/
theorem stickyBitsFollow : Obligations.StickyBitsFollow := by
  refine ⟨fun s t h => ?_, fun _ _ => step_keeps_sticky⟩
  obtain ⟨x, rfl, hill⟩ := executeLatched_eq_next h
  simpa using hill

/-- Settles O11: a word that does not decode is answered with the illegal response. -/
theorem reservedWordIsIllegal : Obligations.ReservedWordIsIllegal := fun _ _ => responds_of_decode_error

end Sys2Proof.Machine
end

section
/-! PROOFS. Reset (70_reset_and_hazards.md R179): a reset step looks at neither handshake port, and only it clears HALT or leaves
HALTED. -/

namespace Sys2Proof.Machine

/-! ### A reset step -/

/-- A step with RST = 1 whose reads are allowed resets, in every phase. -/
theorem step_resets {s : State} (hreads : s.ReadsAllowed) (hrst : s.input.rst = true) :
    step s = .next s.nextInputs.resetStep := by
  rw [step_of_reads s hreads, if_pos hrst]

/-- Of its input a step with RST = 1 uses the reads alone (10_state.md R32; 70_reset_and_hazards.md R179). -/
theorem step_eq_of_reset {s u : State} (hs : s.input.rst = true) (hu : u.input.rst = true) (hreads : u.hostReads = s.hostReads)
    (hnext : u.nextInputs = s.nextInputs) : step u = step s := by
  simp only [step, hreads, hs, hu, hnext, if_true]

/-! ### Steps without reset -/

/-- A step without reset from HALTED only uses up its input (60_exceptions.md R168). -/
theorem step_from_halted {s t : State} (h : step s = .next t) (hrst : s.input.rst = false) (hp : s.phase = .halted) :
    t = s.nextInputs := by
  rw [step_of_running (step_cases h).1 hrst, phaseStep_halted (s := s.nextInputs) hp] at h
  cases h
  rfl

/-- No step without reset clears HALT (70_reset_and_hazards.md R179). -/
theorem step_keeps_halt {s t : State} (h : step s = .next t) (hrst : s.input.rst = false) (hh : s.halt = true) :
    t.halt = true := by
  by_cases hexec : s.phase = .busy ∧ s.nextInputs.keepsWaiting s.input = false
  · obtain ⟨hp, hw⟩ := hexec
    obtain rfl | hx := step_of_execution h hrst hp hw
    · exact State.aborted_halt _
    · obtain ⟨x, rfl, -⟩ := executeLatched_eq_next hx
      rwa [State.completed_halt]
  · obtain ⟨-, -, -, -, hstatus⟩ := step_keeps_results h hrst hexec
    rwa [State.halt, hstatus]

/-! ### The statement -/

/-- Settles O12: a reset step is `resetStep` in every phase and depends on its input through the reads alone; a step without reset
keeps the sticky bits and HALT, and from HALTED only uses up its input. -/
theorem resetStepFromAnyPhase : Obligations.ResetStepFromAnyPhase := by
  refine ⟨fun s hreads hrst => ?_, fun s v op a b hrst => ?_, fun s t h hrst => ?_⟩
  · exact ⟨_, step_resets hreads hrst, rfl, rfl, rfl, rfl, rfl⟩
  · exact ⟨step_eq_of_reset hrst hrst rfl rfl, step_eq_of_reset hrst hrst rfl rfl⟩
  · obtain ⟨hpvs, hills⟩ := step_keeps_sticky h hrst
    refine ⟨hpvs, hills, step_keeps_halt h hrst, fun hp => ?_⟩
    rw [step_from_halted h hrst hp]
    exact hp

end Sys2Proof.Machine
end

section
/-! PROOFS. The invariant of reachable states (10_state.md R20, R29, R33; 60_exceptions.md R165, R167, R168, R172): the reset state has
it, and each transition a step can take keeps it. -/

namespace Sys2Proof.Machine

/-! ### Responses -/

/-- An execution is a completed response without both PV and ILL (10_state.md R29 (a); 60_exceptions.md R172). -/
theorem executeLatched_not_both {s t : State} (h : executeLatched s = .next t) :
    ∃ x : Response, t = s.completed x ∧ ¬ (x.pv = true ∧ x.ill = true) := by
  obtain ⟨x, hx, hcases⟩ := executeLatched_responds s
  rw [hx] at h
  cases h
  refine ⟨x, rfl, ?_⟩
  obtain ⟨-, -, hill⟩ | ⟨-, -, rfl⟩ := hcases
  · simp [hill]
  · simp [illegalResponse]

/-! ### The transitions keep the invariant -/

section
variable {s : State} (hs : s.Inv)
include hs

theorem State.Inv.nextInputs : s.nextInputs.Inv where
  reservedClear := hs.reservedClear
  pvSticky := hs.pvSticky
  illSticky := hs.illSticky
  notBoth := hs.notBoth
  haltIffHalted := hs.haltIffHalted
  marksAgree := hs.marksAgree
  doneWritten := hs.doneWritten
  reportedWritten := hs.reportedWritten
  withinLat := hs.withinLat

/-- Outside HALTED the HALT bit is 0 (10_state.md R33). -/
theorem State.Inv.halt_eq_false (hp : s.phase ≠ .halted) : s.halt = false :=
  Bool.eq_false_iff.2 (mt hs.haltIffHalted.1 hp)

/-- An accepted request has waited no step, which is less than its LAT, a positive bound (00_scope.md R7). -/
theorem State.Inv.accept (hp : s.phase = .idle) (i : StepInput) : (s.accept i).Inv where
  reservedClear := hs.reservedClear
  pvSticky := hs.pvSticky
  illSticky := hs.illSticky
  notBoth := hs.notBoth
  haltIffHalted := by simp [hs.halt_eq_false (by simp [hp])]
  marksAgree := hs.marksAgree
  doneWritten := by simp
  reportedWritten := hs.reportedWritten
  withinLat := fun _ => Nat.succ_pos _

/-- A request waits on only if LAT allows it a further step (10_state.md R29). -/
theorem State.Inv.wait {i : StepInput} (hw : s.keepsWaiting i = true) : s.wait.Inv where
  reservedClear := hs.reservedClear
  pvSticky := hs.pvSticky
  illSticky := hs.illSticky
  notBoth := hs.notBoth
  haltIffHalted := hs.haltIffHalted
  marksAgree := hs.marksAgree
  doneWritten := hs.doneWritten
  reportedWritten := hs.reportedWritten
  withinLat := fun _ => of_decide_eq_true (Bool.and_eq_true_iff.1 hw).2

/-- The fatal abort sets HALT and enters HALTED together (60_exceptions.md R168). -/
theorem State.Inv.aborted : s.aborted.Inv where
  reservedClear := by simpa using hs.reservedClear
  pvSticky := by simpa using hs.pvSticky
  illSticky := by simpa using hs.illSticky
  notBoth := by simpa using hs.notBoth
  haltIffHalted := by simp
  marksAgree := hs.marksAgree
  doneWritten := by simp
  reportedWritten := by simpa using hs.reportedWritten
  withinLat := by simp

/-- A response writes both marks, and PV and ILL with their sticky bits (10_state.md R29 (a); 60_exceptions.md R165, R167). -/
theorem State.Inv.completed (hp : s.phase = .busy) {x : Response} (hx : ¬ (x.pv = true ∧ x.ill = true)) :
    (s.completed x).Inv where
  reservedClear := by simpa using hs.reservedClear
  pvSticky := by simp +contextual
  illSticky := by simp +contextual
  notBoth := by simpa using hx
  haltIffHalted := by simp [hs.halt_eq_false (by simp [hp])]
  marksAgree := rfl
  doneWritten := fun _ => rfl
  reportedWritten := fun _ => rfl
  withinLat := by simp

theorem State.Inv.deliver (hp : s.phase = .done) : s.deliver.Inv where
  reservedClear := hs.reservedClear
  pvSticky := hs.pvSticky
  illSticky := hs.illSticky
  notBoth := hs.notBoth
  haltIffHalted := by simp [hs.halt_eq_false (by simp [hp])]
  marksAgree := hs.marksAgree
  doneWritten := by simp
  reportedWritten := hs.reportedWritten
  withinLat := by simp

end

/-- A reset establishes the invariant, whatever the state was (70_reset_and_hazards.md R179). -/
theorem State.resetStep_inv (s : State) : s.resetStep.Inv := by
  constructor <;> simp

theorem step_keeps_inv {s t : State} (hs : s.Inv) (h : step s = .next t) : t.Inv := by
  have hn := hs.nextInputs
  obtain ⟨-, ⟨-, rfl⟩ | ⟨-, hphase⟩⟩ := step_cases h
  · exact s.nextInputs.resetStep_inv
  obtain ⟨hp, -, rfl⟩ | ⟨-, -, rfl⟩ | ⟨-, hw, rfl⟩ | ⟨-, -, -, rfl⟩ | ⟨hp, -, -, hx⟩ | ⟨hp, -, rfl⟩ | ⟨-, -, rfl⟩ | ⟨-, rfl⟩ :=
    hphase
  · exact hn.accept hp s.input
  · exact hn
  · exact hn.wait hw
  · exact hn.aborted
  · obtain ⟨x, rfl, hboth⟩ := executeLatched_not_both hx
    exact hn.completed hp hboth
  · exact hn.deliver hp
  · exact hn
  · exact hn

/-! ### The statements -/

/-- Settles O22: every transition of `step_cases` keeps the invariant, by its own lemma above. -/
theorem invKeptByEveryStep : Obligations.InvKeptByEveryStep := fun _ _ => step_keeps_inv

/-- Settles O21: the reset state is idle with STATUS 0 and nothing written. -/
theorem invAtReset : Obligations.InvAtReset := by
  constructor <;> decide

end Sys2Proof.Machine
end

section
/-! PROOFS. Reads, executions and the fatal abort in one step (10_state.md R29, R30, R32; 60_exceptions.md R168, R172): only a forbidden
read stops a step, and a step in BUSY that waits no longer executes the latched request or takes the injected fault. -/

namespace Sys2Proof.Machine

/-! ### Reads -/

theorem readResult_unwritten (p : Phase) (v : Word) : readResult false p v = .error .readUnwritten := if_pos rfl

theorem readResult_outsideDone {p : Phase} (hp : p ≠ .done) (v : Word) :
    readResult true p v = .error .readOutsideDone := by simp [readResult, hp]

theorem readResult_done (v : Word) : readResult true .done v = .ok v := rfl

theorem hostReads_of_error_r0 {s : State} {f : Fault} (h0 : s.input.readR0 = true) (hf : s.rspR0 = .error f) :
    s.hostReads = .error f := by simp [State.hostReads, h0, hf, Except.map, Except.bind]

theorem hostReads_of_error_r1 {s : State} {f : Fault} (h0 : s.input.readR0 = false) (h1 : s.input.readR1 = true)
    (hf : s.rspR1 = .error f) : s.hostReads = .error f := by simp [State.hostReads, h0, h1, hf, Except.map, Except.bind]

/-- Where both results may be read, every choice of reads is allowed (10_state.md R32). -/
theorem readsAllowed_of_ok {s : State} {v w : Word} (h0 : s.rspR0 = .ok v) (h1 : s.rspR1 = .ok w) : s.ReadsAllowed := by
  rw [State.ReadsAllowed, State.hostReads, h0, h1]
  cases s.input.readR0 <;> cases s.input.readR1 <;> rfl

theorem step_faults {s : State} {f : Fault} (h : s.hostReads = .error f) : step s = .fault f := by
  simp only [step, h]

/-! ### A step in each phase -/

theorem step_executes {s : State} (hp : s.phase = .busy) (hreads : s.ReadsAllowed) (hrst : s.input.rst = false)
    (hw : s.nextInputs.keepsWaiting s.input = false) (ha : s.input.abort = false) :
    step s = executeLatched s.nextInputs := by
  rw [step_of_running hreads hrst, phaseStep_busy (s := s.nextInputs) hp, hw, ha]
  rfl

theorem step_aborts {s : State} (hp : s.phase = .busy) (hreads : s.ReadsAllowed) (hrst : s.input.rst = false)
    (hw : s.nextInputs.keepsWaiting s.input = false) (ha : s.input.abort = true) :
    step s = .next s.nextInputs.aborted := by
  rw [step_of_running hreads hrst, phaseStep_busy (s := s.nextInputs) hp, hw, ha]
  rfl

theorem step_holds_response {s : State} (hp : s.phase = .done) (hreads : s.ReadsAllowed) (hrst : s.input.rst = false)
    (hr : s.input.rspReady = false) : step s = .next s.nextInputs := by
  rw [step_of_running hreads hrst, phaseStep_done (s := s.nextInputs) hp, hr]
  rfl

theorem step_halted {s : State} (hp : s.phase = .halted) (hreads : s.ReadsAllowed) (hrst : s.input.rst = false) :
    step s = .next s.nextInputs := by
  rw [step_of_running hreads hrst, phaseStep_halted (s := s.nextInputs) hp]

theorem phaseStep_next (i : StepInput) (s : State) : ∃ t, phaseStep i s = .next t := by
  cases hp : s.phase with
  | idle => exact ⟨_, phaseStep_idle hp i⟩
  | busy =>
    rw [phaseStep_busy hp]
    obtain ⟨x, hx, -⟩ := executeLatched_responds s
    split_ifs
    exacts [⟨_, rfl⟩, ⟨_, rfl⟩, ⟨_, hx⟩]
  | done => exact ⟨_, phaseStep_done hp i⟩
  | halted => exact ⟨_, phaseStep_halted hp i⟩

/-- A step whose reads are allowed has a next state (60_exceptions.md §1). -/
theorem step_next_of_reads {s : State} (hreads : s.ReadsAllowed) : ∃ t, step s = .next t := by
  rw [step_of_reads s hreads]
  split
  · exact ⟨_, rfl⟩
  · exact phaseStep_next _ _

/-- A step has a next state, or is the fault of its forbidden read (10_state.md R32). -/
theorem step_next_or_fault (s : State) :
    (∃ t, step s = .next t) ∨ ∃ f, s.hostReads = .error f ∧ step s = .fault f := by
  cases hr : s.hostReads with
  | ok u => exact .inl (step_next_of_reads hr)
  | error f => exact .inr ⟨f, rfl, step_faults hr⟩

/-! ### Executions of the latched request -/

theorem executeLatched_of_decode {s : State} {i : Instr} (h : decode s.op = .ok i) : executeLatched s = exec i s := by
  simp only [executeLatched, h]

theorem decode_of_decodeTableWord {nbits w : Nat} {i : Instr} (h : decodeTableWord nbits w = some i) :
    decode (tableWord nbits w) = .ok i := by
  unfold decodeTableWord at h
  split at h
  · cases h; assumption
  · cases h

/-- The response to an opcode word is a function of the draws and the latched operands (10_state.md R26). -/
theorem executeLatched_meaning (op : Opcode) :
    ∃ f : Draw → Word → Word → Response,
      ∀ s : State, s.op = op → executeLatched s = .next (s.completed (f s.draws s.a s.b)) := by
  cases hd : decode op with
  | ok i =>
    obtain ⟨f, -, hexec⟩ := exec_meaning i
    exact ⟨f, fun s hs => by rw [executeLatched_of_decode (hs ▸ hd), hexec]⟩
  | error e => exact ⟨fun draw _ _ => illegalResponse draw, fun s hs => by simp only [executeLatched, hs, hd]; rfl⟩

/-- The same request at the same place of the free input: what a response may depend on (10_state.md R26). -/
structure State.SameRequest (s u : State) : Prop where
  op : s.op = u.op
  a : s.a = u.a
  b : s.b = u.b
  drawCount : s.drawCount = u.drawCount

theorem State.SameRequest.response {s u : State} (h : s.SameRequest u) :
    ∃ x : Response, executeLatched s = .next (s.completed x) ∧ executeLatched u = .next (u.completed x) := by
  obtain ⟨f, hf⟩ := executeLatched_meaning u.op
  have hdraws : s.draws = u.draws := by unfold State.draws; rw [h.drawCount]
  have hs := hf s h.op
  rw [hdraws, h.a, h.b] at hs
  exact ⟨_, hs, hf u rfl⟩

/-! ### The statements -/

/-- Settles O15: a step whose reads are allowed is a reset or a step of its phase, each of which has a next state, and any other step
is the fault of its read. -/
theorem onlyForbiddenReadsStop : Obligations.OnlyForbiddenReadsStop := by
  refine ⟨fun s r h => ?_, fun s => step_next_of_reads, fun s f h hreads => ?_⟩
  · obtain ⟨t, ht⟩ | ⟨f, -, hf⟩ := step_next_or_fault s
    · rw [ht] at h; cases h
    · rw [hf] at h; cases h
  · obtain ⟨t, ht⟩ := step_next_of_reads hreads
    rw [ht] at h; cases h

/-- Settles O20: a reserved word is answered with the illegal response for every A and B, no response has both PV and ILL, and the
injected fault comes before the execution. -/
theorem decodeHasPriority : Obligations.DecodeHasPriority := by
  refine ⟨fun s e a b he => ?_, fun s t h => ?_, fun s t hp hrst hw ha h => ?_⟩
  · obtain ⟨t, ht, -, -, -, -, -, hpv, hill, -⟩ := responds_of_decode_error (s := { s with a := a, b := b }) he
    exact ⟨t, ht, hill, hpv⟩
  · obtain ⟨x, rfl, hboth⟩ := executeLatched_not_both h
    rwa [State.completed_pv, State.completed_ill]
  · rw [step_aborts hp (step_cases h).1 hrst hw ha] at h
    cases h
    rfl

/-- Settles O23: the response is a function of the word, the draws and the latched operands. -/
theorem responseDependsOnItsRequest : Obligations.ResponseDependsOnItsRequest := by
  intro s u t v hop ha hb hdraw ht hv
  obtain ⟨x, hs, hu⟩ := State.SameRequest.response ⟨hop, ha, hb, hdraw⟩
  rw [hs] at ht
  rw [hu] at hv
  cases ht
  cases hv
  simp

/-- Settles O5: in BUSY the step is the execution of the latched word, which runs what the word decodes to. -/
theorem stepRunsDecodedOperation : Obligations.StepRunsDecodedOperation := by
  intro s i hp hreads hrst hw ha hd
  rw [step_executes hp hreads hrst hw ha, executeLatched_of_decode (s := s.nextInputs) hd]

/-- Settles O6: the quiet input put before the others neither reads, resets, waits nor aborts, and is used up by the step. -/
theorem fetchWordRunsNext : Obligations.FetchWordRunsNext := by
  intro s nbits w i h
  have hreads : (s.withFetchWord nbits w).ReadsAllowed := hostReads_of_none _ rfl rfl
  exact stepRunsDecodedOperation _ i rfl hreads rfl rfl rfl (decode_of_decodeTableWord h)

/-- Settles O9: without RSP_READY a step in DONE only uses up its input. -/
theorem doneWaitsForReady : Obligations.DoneWaitsForReady := fun _ => step_holds_response

/-- Settles O14: the first forbidden read is the fault of the step, and in DONE with both marks set no read is forbidden. -/
theorem resultReadsOnlyFromResponses : Obligations.ResultReadsOnlyFromResponses := by
  refine ⟨fun s h0 hw => ?_, fun s h0 hw hp => ?_, fun s h0 h1 hw => ?_, fun s h0 h1 hw hp => ?_, fun s hp h0 h1 => ?_⟩
  · exact step_faults (hostReads_of_error_r0 h0 (by rw [State.rspR0, hw, readResult_unwritten]))
  · exact step_faults (hostReads_of_error_r0 h0 (by rw [State.rspR0, hw, readResult_outsideDone hp]))
  · exact step_faults (hostReads_of_error_r1 h0 h1 (by rw [State.rspR1, hw, readResult_unwritten]))
  · exact step_faults (hostReads_of_error_r1 h0 h1 (by rw [State.rspR1, hw, readResult_outsideDone hp]))
  · have hr0 : s.rspR0 = .ok s.r0 := by rw [State.rspR0, h0, hp, readResult_done]
    have hr1 : s.rspR1 = .ok s.r1 := by rw [State.rspR1, h1, hp, readResult_done]
    exact ⟨hr0, hr1, step_next_of_reads (readsAllowed_of_ok hr0 hr1)⟩

/-- Settles O16: the step of an aborted execution is `aborted`, which writes HALT and the phase alone; in HALTED a step only uses up
its input. -/
theorem fatalAbortHalts : Obligations.FatalAbortHalts := by
  refine ⟨fun s hp hreads hrst hw ha => ?_, fun s hp => ?_, fun _ => step_halted⟩
  · exact ⟨_, step_aborts hp hreads hrst hw ha, by simp⟩
  · simp [State.reqReady, State.rspValid, hp]

end Sys2Proof.Machine
end

section
/-! PROOFS. A request in flight is answered within LAT (10_state.md R29; 70_reset_and_hazards.md R187): every waiting step uses up an
input and keeps the request, and waiting ends with the inputs or with the bound. -/

namespace Sys2Proof.Machine

/-- An input that lets a request in flight run: no reset, no injected fault, no read of a result. -/
def StepInput.Undisturbing (i : StepInput) : Prop :=
  i.rst = false ∧ i.abort = false ∧ i.readR0 = false ∧ i.readR1 = false

theorem StepInput.quiet_undisturbing : StepInput.quiet.Undisturbing := ⟨rfl, rfl, rfl, rfl⟩

/-- A step in BUSY under such an input waits or executes (10_state.md R29). -/
theorem step_waits_or_executes {s : State} (hp : s.phase = .busy) (hi : s.input.Undisturbing) :
    (s.nextInputs.keepsWaiting s.input = true ∧ step s = .next s.nextInputs.wait) ∨
      step s = executeLatched s.nextInputs := by
  obtain ⟨hrst, ha, h0, h1⟩ := hi
  have hreads : s.ReadsAllowed := hostReads_of_none s h0 h1
  cases hw : s.nextInputs.keepsWaiting s.input with
  | true => exact .inl ⟨rfl, step_waits hp hreads hrst hw⟩
  | false => exact .inr (step_executes hp hreads hrst hw ha)

theorem run_succ_of_step {s t : State} (h : step s = .next t) (n : Nat) :
    Host.Core.run Sys2Proof.core (n + 1) s = Host.Core.run Sys2Proof.core n t := by
  have h' : Sys2Proof.core.step s = .next t := h
  simp only [Host.Core.run, h']

/-- `t` is the answer to the request in flight in `s` after `n` steps: they end with the execution of that request, STATUS being that
of `s` until then (10_state.md R29). -/
def AnsweredIn (s : State) (n : Nat) (t : State) : Prop :=
  Host.Core.run Sys2Proof.core n s = .next t ∧
    ∃ u : State, executeLatched u = .next t ∧ u.SameRequest s ∧ u.status = s.status

/-- An executing step answers. -/
theorem answeredIn_one {s : State} (h : step s = executeLatched s.nextInputs) : ∃ t, AnsweredIn s 1 t := by
  obtain ⟨x, hx, -⟩ := executeLatched_responds s.nextInputs
  exact ⟨_, run_succ_of_step (h.trans hx) 0, s.nextInputs, hx, ⟨rfl, rfl, rfl, rfl⟩, rfl⟩

/-- A waiting step puts the answer off by one step. -/
theorem AnsweredIn.after_wait {s t : State} {n : Nat} (h : step s = .next s.nextInputs.wait)
    (hn : AnsweredIn s.nextInputs.wait n t) : AnsweredIn s (n + 1) t := by
  obtain ⟨hrun, u, hu, hsame, hstatus⟩ := hn
  exact ⟨(run_succ_of_step h n).trans hrun, u, hu, ⟨hsame.op, hsame.a, hsame.b, hsame.drawCount⟩, hstatus⟩

/-- A request in flight is answered within its bound, by induction over the inputs to come (70_reset_and_hazards.md R187). -/
theorem answeredIn_within_lat {s : State} (hp : s.phase = .busy) (hlat : s.waited < Config.lat s.op)
    (hinputs : ∀ i ∈ s.inputs, i.Undisturbing) : ∃ n t, 0 < n ∧ s.waited + n ≤ Config.lat s.op ∧ AnsweredIn s n t := by
  induction hl : s.inputs generalizing s with
  | nil =>
    have hquiet : s.input = .quiet := by simp [State.input, hl]
    obtain ⟨hw, -⟩ | hstep := step_waits_or_executes hp (hquiet ▸ StepInput.quiet_undisturbing)
    · rw [hquiet] at hw; cases hw
    · obtain ⟨t, ht⟩ := answeredIn_one hstep
      exact ⟨1, t, one_pos, hlat, ht⟩
  | cons i l ih =>
    have hinput : s.input = i := by simp [State.input, hl]
    rw [hl, List.forall_mem_cons] at hinputs
    obtain ⟨hi, hrest⟩ := hinputs
    obtain ⟨hw, hstep⟩ | hstep := step_waits_or_executes hp (hinput ▸ hi)
    · have hbound : s.waited + 1 < Config.lat s.op := of_decide_eq_true (Bool.and_eq_true_iff.1 hw).2
      have htail : s.nextInputs.wait.inputs = l := by simp [hl]
      obtain ⟨n, t, hn, hle, ht⟩ := ih (s := s.nextInputs.wait) hp hbound (htail ▸ hrest) htail
      have hle : s.waited + 1 + n ≤ Config.lat s.op := hle
      exact ⟨n + 1, t, n.succ_pos, by omega, ht.after_wait hstep⟩
    · obtain ⟨t, ht⟩ := answeredIn_one hstep
      exact ⟨1, t, one_pos, hlat, ht⟩

/-- Settles O10: the steps within the bound end with the execution of the same request, so its response is that of executing at once. -/
theorem responseWithinLat : Obligations.ResponseWithinLat := by
  intro s hp hlat hinputs
  obtain ⟨n, t, hn, hle, hrun, u, hu, hsame, hstatus⟩ := answeredIn_within_lat hp hlat hinputs
  obtain ⟨x, hxu, hxs⟩ := hsame.response
  rw [hxu] at hu
  cases hu
  exact ⟨n, _, _, hn, hle, hrun, hxs, rfl, rfl, rfl, by simp [hstatus]⟩

end Sys2Proof.Machine
end

section
/-! PROOFS. STATUS after an operation (43_float_common.md R109; 60_exceptions.md R164): PV, PVS and ILL are written, the other
fields kept. -/

namespace Sys2Proof.Machine

theorem statusAfter_legal (st : Status) : statusAfter st false false = st &&& 0xFC := by simp [statusAfter]

theorem statusAfter_violation (st : Status) : statusAfter st true false = (st &&& 0xFC) ||| 0x05 := by simp [statusAfter]

/-- Of STATUS an operation writes PV, PVS and ILL alone, by its precondition (60_exceptions.md R164, R165, R167). -/
theorem exec_status {i : Instr} {s t : State} (h : exec i s = .next t) :
    (¬ BreaksPrecondition i s → t.status = s.status &&& 0xFC) ∧
    (BreaksPrecondition i s → t.status = (s.status &&& 0xFC) ||| 0x05) := by
  have hpv := pvExactlyOnBrokenPreconditions.1 i s t h
  obtain ⟨x, hx, hill⟩ := exec_responds i s
  rw [hx] at h
  cases h
  rw [State.completed_pv] at hpv
  rw [State.completed_status, hill, ← hpv]
  cases x.pv with
  | false => exact ⟨fun _ => statusAfter_legal _, fun hb => absurd hb Bool.false_ne_true⟩
  | true => exact ⟨fun hb => absurd rfl hb, fun _ => statusAfter_violation _⟩

/-- Settles O46: an operation's response is never illegal, and it has PV exactly on a broken precondition. -/
theorem floatOperationsSetNoFlags : Obligations.FloatOperationsSetNoFlags := fun _ _ _ _ => exec_status

end Sys2Proof.Machine
end

section
/-! PROOFS. The base counts of zero inside a composed count (42_zero_count.md R91 to R93): the composition takes the count of a
nonzero half. -/

namespace Sys2Proof.Machine

/-- The halves of a nonzero operand are not both 0. -/
theorem halves_ne_zero {K : Nat} {x : BitVec (K + K)} (hx : x ≠ 0) : ¬ (x.extractLsb' K K = 0 ∧ x.extractLsb' 0 K = 0) := by
  rintro ⟨hhigh, hlow⟩
  rw [highHalf_eq_zero_iff] at hhigh
  rw [lowHalf_eq_zero_iff] at hlow
  have hsplit := Nat.div_add_mod x.toNat (2 ^ K)
  rw [hhigh, hlow] at hsplit
  exact BitVec.toNat_ne_iff_ne.2 hx hsplit.symm

section
variable {N : Nat} {count : CountOfZero → BitVec N → BitVec 32} {f : Nat → Nat} (hc : Counts count f)
include hc

/-- A count of a nonzero operand does not depend on the base counts of 0 (42_zero_count.md R91). -/
theorem Counts.congr (u v : CountOfZero) {x : BitVec N} (hx : x ≠ 0) : count u x = count v x := by
  rw [hc u x hx, hc v x hx]

/-- A composition is the count of its first half where that is not 0, else the width and the count of the second half; both are
counts of nonzero halves (42_zero_count.md R92, R93). -/
theorem Counts.select_half (u u' v : CountOfZero) {first second : BitVec N} (width : BitVec 32)
    (hx : ¬ (first = 0 ∧ second = 0)) :
    (first ≠ 0 → selectCount (zeroMask first) (count u first) (width + count u' second) = count v first) ∧
    (first = 0 → selectCount (zeroMask first) (count u first) (width + count u' second) = width + count v second) := by
  constructor
  · intro hfirst
    rw [zeroMask_of_ne hfirst, selectCount_clear]
    exact hc.congr u v hfirst
  · intro hfirst
    rw [hfirst, zeroMask_zero, selectCount_set, hc.congr u' v fun hsecond => hx ⟨hfirst, hsecond⟩]

end

/-- Settles O38: the halves of a nonzero operand are not both 0, so the composition takes the count of a nonzero half, which the base
count of 0 does not enter. -/
theorem baseCountsOfZeroAreMasked : Obligations.BaseCountsOfZeroAreMasked := by
  refine fun u v => ⟨fun x hx => ?_, fun x hx => ?_⟩
  · have hhalves := halves_ne_zero (K := 32) hx
    obtain ⟨hclz, hclz'⟩ := clz32_counts.select_half u (fun k => u (k + 1)) v 32 hhalves
    obtain ⟨hctz, hctz'⟩ := ctz32_counts.select_half u (fun k => u (k + 1)) v 32 (mt And.symm hhalves)
    exact ⟨clz64_counts.congr u v hx, ctz64_counts.congr u v hx, hclz, hclz', hctz, hctz'⟩
  · have hhalves := halves_ne_zero (K := 64) hx
    obtain ⟨hclz, hclz'⟩ := clz64_counts.select_half u (fun k => u (k + 2)) v 64 hhalves
    obtain ⟨hctz, hctz'⟩ := ctz64_counts.select_half u (fun k => u (k + 2)) v 64 (mt And.symm hhalves)
    exact ⟨clz128_counts.congr u v hx, ctz128_counts.congr u v hx, hclz, hclz', hctz, hctz'⟩

end Sys2Proof.Machine
end

section
/-! PROOFS. The bound of the division loop (40_unsigned_division.md R68), and the constants of formats and opcode words (00_scope.md R6;
30_encoding.md R62). -/

namespace Sys2Proof.Machine

theorem divideLoopCount_of_early_exit {N : Nat} {n d : BitVec N}
    (h : (lz d : Int) - lz n < 0 ∨ (lz d : Int) - lz n ≥ (N : Int) - 1) : divideLoopCount n d = 0 :=
  if_pos (by rw [divideShift]; omega)

/-- Settles O30: outside the early exits the count is one more than the difference of the leading-zero counts, which is then not
negative and below N - 1. -/
theorem divideLoopIsBounded : Obligations.DivideLoopIsBounded := by
  intro N n d hN
  by_cases h : (lz d : Int) - lz n < 0 ∨ (lz d : Int) - lz n ≥ (N : Int) - 1
  · have h0 := divideLoopCount_of_early_exit h
    exact ⟨by omega, iff_of_true h0 h⟩
  · have hcount : divideLoopCount n d = lz d - lz n + 1 := divideLoopCount_of_loop (by omega) (by omega)
    exact ⟨by omega, iff_of_false (by omega) h⟩

/-- Settles O39: the widths of the four records are their valid layout, and the table is the records' own. -/
theorem formatRecords : Obligations.FormatRecords := by
  refine ⟨fun F hmem => ?_, rfl⟩
  rw [(valid_of_mem_allFormats hmem).total, FloatFormat.storedBits, ← Nat.add_assoc]

/-- Settles O1: each of the seven words is that of its row of the opcode map, which decodes to its operation. -/
theorem wordsOfEachFamilyDecode : Obligations.WordsOfEachFamilyDecode := by
  simp only [Obligations.WordsOfEachFamilyDecode, decode_eq_ok_iff]
  decide

end Sys2Proof.Machine
end

section
/-! PROOFS. Products without a NaN operand (46_float_multiply.md R156, R159): they commute, 1.0 is neutral, and infinity takes up every
number but zero. -/

namespace Sys2Proof.Machine

/-- The formats with a multiplier are valid and store no integer bit (46_float_multiply.md R160 to R162). -/
theorem valid_of_mem_multiplyFormats {F : FloatFormat} (h : F ∈ multiplyFormats) : F.Valid ∧ F.hasImplicitBit = true := by
  simp only [multiplyFormats, List.mem_cons, List.not_mem_nil, or_false] at h
  obtain rfl | rfl | rfl := h
  exacts [⟨F32_valid, rfl⟩, ⟨F64_valid, rfl⟩, ⟨F128_valid, rfl⟩]

/-! ### Commutation -/

theorem Magnitude.mul_comm (x y : Magnitude) : x.mul y = y.mul x := by
  simp only [Magnitude.mul, Nat.mul_comm, Int.add_comm]

/-- The case of infinity and zero is the same from either side (46_float_multiply.md R156). -/
theorem infinity_zero_comm (c d : FloatClass) :
    (c = .infinity ∧ d = .zero ∨ c = .zero ∧ d = .infinity) ↔ (d = .infinity ∧ c = .zero ∨ d = .zero ∧ c = .infinity) := by
  rw [or_comm, and_comm, and_comm (a := c = .infinity)]

/-- Without a NaN no case of a product prefers an operand (46_float_multiply.md R159). -/
theorem multiplyFloat_comm {F : FloatFormat} (exact : Bool) (draw : Draw) {a b : Word} (ha : (classify F a).isNaN = false)
    (hb : (classify F b).isNaN = false) : multiplyFloat F exact draw a b = multiplyFloat F exact draw b a := by
  simp only [multiplyFloat, ha, hb, infinity_zero_comm (classify F a), Bool.xor_comm (floatSign F a),
    Magnitude.mul_comm (magnitude F a), or_comm, Bool.false_eq_true, if_false]

/-! ### An operand by its fields -/

section
variable {F : FloatFormat} (hF : F.Valid) (hJ : F.hasImplicitBit = true)
include hF hJ

/-- The bits of an operand are its sign, exponent and fraction fields (30_encoding.md R55). -/
theorem toNat_mod_eq_fields (v : Word) :
    v.toNat % 2 ^ F.totalBits =
      (floatSign F v).toNat * 2 ^ (F.totalBits - 1) + exponentField F v * 2 ^ F.storedBits + fractionField F v := by
  have hstored : F.storedBits = F.significandBits := by simp [FloatFormat.storedBits, hJ]
  have htop : F.totalBits - 1 = F.storedBits + F.exponentBits := by have := hF.total; omega
  have htotal : F.totalBits = F.totalBits - 1 + 1 := by have := hF.total; omega
  have hsign : v.toNat / 2 ^ (F.totalBits - 1) % 2 = (floatSign F v).toNat := (Nat.toNat_testBit _ _).symm
  have hexp : v.toNat / 2 ^ F.storedBits % 2 ^ F.exponentBits = exponentField F v := by
    rw [exponentField, BitVec.extractLsb'_toNat, Nat.shiftRight_eq_div_pow]
  have hfrac : v.toNat % 2 ^ F.storedBits = fractionField F v := by
    rw [fractionField, BitVec.extractLsb'_toNat, Nat.shiftRight_zero, hstored]
  have hlow : v.toNat % 2 ^ (F.totalBits - 1) = fractionField F v + 2 ^ F.storedBits * exponentField F v := by
    rw [htop, pow_add, Nat.mod_mul, hexp, hfrac]
  rw [htotal, Nat.mod_pow_succ, hlow, hsign, ← htotal]
  ring

theorem floatOperand_eq_encodeFloat (v : Word) :
    floatOperand F.totalBits v = encodeFloat F (floatSign F v) (exponentField F v) (fractionField F v) := by
  have hlt : v.toNat % 2 ^ F.totalBits < 2 ^ 128 :=
    (Nat.mod_lt _ (Nat.two_pow_pos _)).trans_le (Nat.pow_le_pow_right (by decide) hF.fits)
  rw [← BitVec.toNat_inj, floatOperand_toNat _ _ hF.fits, encodeFloat, BitVec.toNat_ofNat, ← toNat_mod_eq_fields hF hJ,
    Nat.mod_eq_of_lt hlt]

end

/-! ### Rounding the magnitude of an operand -/

/-- The quantum of an operand's magnitude is the weight of its last fraction bit (43_float_common.md R101, R103). -/
theorem quantumExponent_magnitude {F : FloatFormat} {v : Word} (h : classify F v = .subnormal ∨ classify F v = .normal) :
    quantumExponent F (magnitude F v) = (magnitude F v).exp + F.significandBits := by
  have hemin : F.emin = 1 - F.bias := rfl
  obtain h | h := h
  · obtain ⟨he, hf⟩ := fields_of_subnormal h
    have hlog := log2_fractionField_lt hf
    rw [magnitude_of_exponent_zero he]
    simp only [quantumExponent]
    omega
  · obtain ⟨he, -⟩ := exponentField_of_normal h
    rw [magnitude_of_exponent_pos he]
    simp only [quantumExponent, log2_normal_coeff]
    omega

theorem roundFloat_of_ne_zero (F : FloatFormat) (s : Bool) {x : Magnitude} (h : x.coeff ≠ 0) :
    roundFloat F s x = finishRound F s (quantumExponent F x) (roundedSignificand F (quantumExponent F x) x) :=
  if_neg h

/-- A magnitude in units of its own exponent is its coefficient (43_float_common.md R103). -/
theorem roundedSignificand_exp_add (F : FloatFormat) (x : Magnitude) :
    roundedSignificand F (x.exp + F.significandBits) x = x.coeff := by
  simp [roundedSignificand]

section
variable {F : FloatFormat} (hF : F.Valid) {v : Word} (s : Bool)
include hF

/-- Rounding the magnitude of an operand leaves its coefficient as it is (43_float_common.md R103). -/
theorem roundFloat_magnitude (h : classify F v = .subnormal ∨ classify F v = .normal) :
    roundFloat F s (magnitude F v) =
      finishRound F s ((magnitude F v).exp + F.significandBits) (magnitude F v).coeff := by
  rw [roundFloat_of_ne_zero F s (magnitude_fitsIn hF h).nonzero, quantumExponent_magnitude h, roundedSignificand_exp_add]

theorem roundFloat_magnitude_subnormal (h : classify F v = .subnormal) :
    roundFloat F s (magnitude F v) = encodeFloat F s (exponentField F v) (fractionField F v) := by
  obtain ⟨he, -⟩ := fields_of_subnormal h
  have hf := fractionField_lt F v
  have hp : 2 ^ (F.significandBits + 1) = 2 * 2 ^ F.significandBits := pow_succ' ..
  have hcarry : fractionField F v ≠ 2 ^ (F.significandBits + 1) := by omega
  have hmin := emin_le_emax hF
  rw [roundFloat_magnitude hF s (.inl h), magnitude_of_exponent_zero he, he]
  simp [finishRound, hcarry, hf.not_ge, hmin.not_gt]

theorem roundFloat_magnitude_normal (h : classify F v = .normal) :
    roundFloat F s (magnitude F v) = encodeFloat F s (exponentField F v) (F.integerBit + fractionField F v) := by
  obtain ⟨he, hmax⟩ := exponentField_of_normal h
  have hf := fractionField_lt F v
  have hp : 2 ^ (F.significandBits + 1) = 2 * 2 ^ F.significandBits := pow_succ' ..
  have hcarry : 2 ^ F.significandBits + fractionField F v ≠ 2 ^ (F.significandBits + 1) := by omega
  have hemax : F.emax = F.bias := rfl
  have hfinite : ¬ F.emax < (exponentField F v : Int) - F.bias := by rw [emaxField_eq hF] at hmax; omega
  rw [roundFloat_magnitude hF s (.inr h), magnitude_of_exponent_pos he]
  simp [finishRound, hcarry, hfinite]

/-- Rounding the magnitude of a nonzero finite operand gives the operand back (43_float_common.md R103). -/
theorem roundFloat_magnitude_eq_floatOperand (hJ : F.hasImplicitBit = true)
    (h : classify F v = .subnormal ∨ classify F v = .normal) :
    roundFloat F (floatSign F v) (magnitude F v) = floatOperand F.totalBits v := by
  have hbit : F.integerBit = 0 := by simp [FloatFormat.integerBit, hJ]
  rw [floatOperand_eq_encodeFloat hF hJ]
  obtain h | h := h
  · exact roundFloat_magnitude_subnormal hF _ h
  · rw [roundFloat_magnitude_normal hF _ h, hbit, Nat.zero_add]

end

/-! ### One -/

section
variable {F : FloatFormat} (hF : F.Valid)
include hF

theorem bias_bounds : F.bias ≠ 0 ∧ F.bias < F.emaxField := by
  have hpow : 2 ^ 1 ≤ 2 ^ (F.exponentBits - 1) := Nat.pow_le_pow_right (by decide) (by have := hF.exponent; omega)
  have hbias := hF.bias
  have hmax := emaxField_eq hF
  omega

theorem classify_floatOne : classify F (floatOne F) = .normal := by
  obtain ⟨h0, hmax⟩ := bias_bounds hF
  have h := classify_encodeFloat_of_pos hF false h0 (hmax.trans (emaxField_lt F)) (f := 0) (by positivity)
  rwa [if_pos hmax] at h

theorem floatSign_floatOne : floatSign F (floatOne F) = false :=
  floatSign_encodeFloat hF ((bias_bounds hF).2.trans (emaxField_lt F)) (integerBit_add_lt F (f := 0) (by positivity))

theorem magnitude_floatOne_value : (magnitude F (floatOne F)).value = 1 := by
  obtain ⟨h0, hmax⟩ := bias_bounds hF
  have h : magnitude F (floatOne F) = _ :=
    magnitude_encodeFloat_of_pos hF false h0 (hmax.trans (emaxField_lt F)) (f := 0) (by positivity)
  rw [h, Magnitude.value]
  simp

theorem productSign_floatOne (x : Word) : productSign F x (floatOne F) = floatSign F x := by
  rw [productSign, floatSign_floatOne hF, Bool.xor_false]

/-- A finite operand times 1.0 is the operand: zero by the rule of zeros, any other number by rounding its own magnitude
(46_float_multiply.md R159). -/
theorem multiplyFloat_one (hJ : F.hasImplicitBit = true) (exact : Bool) (draw : Draw) {x : Word}
    (hx : (classify F x).isFinite = true) : multiplyFloat F exact draw x (floatOne F) = floatOperand F.totalBits x := by
  have hone := classify_floatOne hF
  obtain h0 | h := (FloatClass.isFinite_iff _).1 hx
  · obtain ⟨he, hf⟩ := fields_of_zero h0
    rw [multiplyFloat_of_zero _ _ (.inl ⟨h0, by rw [hone]; rfl⟩), productSign_floatOne hF, floatOperand_eq_encodeFloat hF hJ,
      he, hf, floatZero]
  · rw [multiplyFloat_of_nonzero _ _ h (.inr hone), productSign_floatOne hF, roundFloat_eq_roundRational, Magnitude.value_mul,
      magnitude_floatOne_value hF, mul_one, ← roundFloat_eq_roundRational, roundFloat_magnitude_eq_floatOperand hF hJ h]

end

/-! ### The statements -/

/-- Settles O55: without a NaN every case of the multiplier is symmetric in its operands. -/
theorem multiplyCommutes : Obligations.MultiplyCommutes := fun _ _ e d _ _ => multiplyFloat_comm e d

/-- Settles O56: 1.0 has magnitude 1 and positive sign, and rounding the magnitude of an operand gives the operand. -/
theorem multiplyByOne : Obligations.MultiplyByOne := by
  intro F hmem e d x hx
  obtain ⟨hF, hJ⟩ := valid_of_mem_multiplyFormats hmem
  exact multiplyFloat_one hF hJ e d hx

/-- Settles O57: infinity and zero multiply to the default NaN or a free quiet one, infinity and another number to infinity. -/
theorem infinityProducts : Obligations.InfinityProducts := by
  intro F hmem e d s t
  obtain ⟨hF, -⟩ := valid_of_mem_multiplyFormats hmem
  have hinf := classify_floatInfinity hF s
  have hzero := classify_floatZero hF t
  have hnan : classify F (multiplyNaN F e d (defaultNaN F)) = .quietNaN := classify_multiplyNaN hF e d (classify_defaultNaN hF)
  refine ⟨?_, ?_, fun y hy hsign => ?_⟩
  · rw [multiplyFloat_of_infinity_zero e d (.inl ⟨hinf, hzero⟩), hnan]
  · rw [multiplyFloat_of_infinity_zero e d (.inr ⟨hzero, hinf⟩), hnan]
  · obtain ⟨hynan, -, hy0⟩ := FloatClass.not_special_of_nonzero hy
    rw [multiplyFloat_of_infinity e d (.inl ⟨hinf, hynan, hy0⟩), productSign, floatSign_floatInfinity hF, hsign]

end Sys2Proof.Machine
end

section
/-! PROOFS. The thresholds of rounding (43_float_common.md R105): where the nearest integer reaches the carry, the least Normal
significand and 0. -/

namespace Sys2Proof.Machine

/-! ### The nearest integer -/

/-- The nearest integer of `m` is its floor `q` up to the tie, the tie included where `q` is even, else `q + 1` (43_float_common.md
R103). -/
theorem nearestEven_cases {m : ℚ} (hm : 0 ≤ m) :
    ∃ q : ℕ, (q : ℚ) ≤ m ∧ m < q + 1 ∧
      (nearestEven m = q ∧ m ≤ q + 1 / 2 ∧ (m = q + 1 / 2 → Even q) ∨
       nearestEven m = q + 1 ∧ q + 1 / 2 ≤ m ∧ (m = q + 1 / 2 → ¬ Even q)) := by
  refine ⟨⌊m⌋₊, Nat.floor_le hm, Nat.lt_floor_add_one m, ?_⟩
  simp only [nearestEven, Nat.even_iff]
  split_ifs with hbelow habove heven
  · exact .inl ⟨rfl, by linarith, fun h => by linarith⟩
  · exact .inr ⟨rfl, by linarith, fun h => by linarith⟩
  · exact .inl ⟨rfl, by linarith, fun _ => heven⟩
  · exact .inr ⟨rfl, by linarith, fun _ => heven⟩

section
variable {m : ℚ} (hm : 0 ≤ m) {n : ℕ}
include hm

/-- Past an even integer the tie is rounded down to it (43_float_common.md R103). -/
theorem nearestEven_le_iff (hn : Even n) : nearestEven m ≤ n ↔ m ≤ n + 1 / 2 := by
  obtain ⟨q, hlow, hhigh, hcases⟩ := nearestEven_cases hm
  obtain hq | rfl | hq := lt_trichotomy q n
  · have hcast : (q : ℚ) + 1 ≤ n := by exact_mod_cast hq
    exact iff_of_true (by omega) (by linarith)
  · obtain ⟨hM, hle, -⟩ | ⟨hM, hge, hodd⟩ := hcases
    · exact iff_of_true hM.le hle
    · exact iff_of_false (by omega) fun hle => hodd (le_antisymm hle hge) hn
  · have hcast : (n : ℚ) + 1 ≤ q := by exact_mod_cast hq
    exact iff_of_false (by omega) (by linarith)

/-- Before an even integer the tie is rounded up to it (43_float_common.md R103). -/
theorem le_nearestEven_iff (hn : Even n) : n ≤ nearestEven m ↔ n - 1 / 2 ≤ m := by
  obtain ⟨q, hlow, hhigh, hcases⟩ := nearestEven_cases hm
  obtain hq | rfl | hq := lt_trichotomy (q + 1) n
  · have hcast : (q : ℚ) + 1 + 1 ≤ n := by exact_mod_cast hq
    exact iff_of_false (by omega) (by linarith)
  · push_cast
    obtain ⟨hM, hle, heven⟩ | ⟨hM, hge, -⟩ := hcases
    · refine iff_of_false (by omega) fun hge => ?_
      exact Nat.even_add_one.1 hn (heven (by linarith))
    · exact iff_of_true hM.ge (by linarith)
  · have hcast : (n : ℚ) ≤ q := by exact_mod_cast Nat.lt_succ_iff.1 hq
    have hle : n ≤ q := Nat.lt_succ_iff.1 hq
    exact iff_of_true (by omega) (by linarith)

end

/-! ### Exponent and significand of a rounded rational -/

/-- `k` of `round_F` (43_float_common.md R103). -/
def rationalExponent (F : FloatFormat) (x : ℚ) : Int := max (Int.log 2 x) F.emin

/-- `x` in units of the quantum, `m` of `round_F` (43_float_common.md R103). -/
def rationalScaled (F : FloatFormat) (x : ℚ) : ℚ := x / (2 : ℚ) ^ (rationalExponent F x - F.significandBits)

/-- `M` of `round_F` (43_float_common.md R103). -/
def rationalSignificand (F : FloatFormat) (x : ℚ) : Nat := nearestEven (rationalScaled F x)

@[simp] theorem roundRational_zero (F : FloatFormat) (s : Bool) : roundRational F s 0 = floatZero F s := if_pos rfl

theorem roundRational_of_pos (F : FloatFormat) (s : Bool) {x : ℚ} (hx : 0 < x) :
    roundRational F s x = finishRound F s (rationalExponent F x) (rationalSignificand F x) :=
  if_neg hx.ne'

/-- Half a quantum below `c` binades, as R105 writes it (43_float_common.md R105). -/
theorem half_quantum_below (c : ℚ) (k : Int) (T : ℕ) :
    (c * 2 ^ T - 1 / 2) * (2 : ℚ) ^ (k - T) = (c - (2 : ℚ) ^ (-((T : Int) + 1))) * (2 : ℚ) ^ k := by
  rw [zpow_sub₀ two_ne_zero, zpow_neg, zpow_add_one₀ two_ne_zero, zpow_natCast]
  field_simp

theorem even_two_pow_succ (n : ℕ) : Even (2 ^ (n + 1)) := even_two.pow_of_ne_zero n.succ_ne_zero

theorem even_two_pow_significandBits {F : FloatFormat} (hF : F.Valid) : Even (2 ^ F.significandBits) :=
  even_two.pow_of_ne_zero (by have := hF.fraction; omega)

section
variable (F : FloatFormat) {x : ℚ} (hx : 0 < x)

theorem emin_le_rationalExponent : F.emin ≤ rationalExponent F x := le_max_right _ _

include hx

theorem rationalScaled_nonneg : 0 ≤ rationalScaled F x := by unfold rationalScaled; positivity

theorem lt_two_zpow_rationalExponent : x < (2 : ℚ) ^ (rationalExponent F x + 1) :=
  (Int.lt_zpow_iff_log_lt one_lt_two hx).2 (by exact_mod_cast Int.lt_add_one_of_le (le_max_left _ _))

/-- Above the least exponent the exponent is that of the number (43_float_common.md R103). -/
theorem two_zpow_rationalExponent_le (hk : F.emin < rationalExponent F x) : (2 : ℚ) ^ rationalExponent F x ≤ x := by
  have hlog : rationalExponent F x = Int.log 2 x := by unfold rationalExponent at hk ⊢; omega
  rw [hlog]
  exact_mod_cast Int.zpow_log_le_self one_lt_two hx

theorem rationalExponent_of_lt (hlt : x < (2 : ℚ) ^ F.emin) : rationalExponent F x = F.emin :=
  max_eq_right ((Int.lt_zpow_iff_log_lt one_lt_two hx).1 (by exact_mod_cast hlt)).le

end

/-- `2^T` quanta are the binade of the exponent (43_float_common.md R103). -/
theorem two_pow_mul_quantum (T : ℕ) (k : Int) : (2 : ℚ) ^ T * (2 : ℚ) ^ (k - T) = (2 : ℚ) ^ k := by
  rw [← zpow_natCast, ← zpow_add₀ two_ne_zero, add_sub_cancel]

/-- Where overflow begins, `(2 - 2^-p) * 2^emax` (43_float_common.md R105). -/
def overflowBound (F : FloatFormat) : ℚ := (2 - (2 : ℚ) ^ (-((F.significandBits : Int) + 1))) * (2 : ℚ) ^ F.emax

/-- The bound of overflow lies in the last binade (43_float_common.md R105). -/
theorem overflowBound_bounds (F : FloatFormat) :
    (2 : ℚ) ^ F.emax ≤ overflowBound F ∧ overflowBound F < (2 : ℚ) ^ (F.emax + 1) := by
  have hpos : (0 : ℚ) < 2 ^ F.emax := by positivity
  have hle : (2 : ℚ) ^ (-((F.significandBits : Int) + 1)) ≤ 1 := zpow_le_one_of_nonpos₀ one_le_two (by omega)
  have hp : (0 : ℚ) < 2 ^ (-((F.significandBits : Int) + 1)) := by positivity
  rw [overflowBound, zpow_add_one₀ two_ne_zero, mul_comm]
  exact ⟨le_mul_of_one_le_right hpos.le (by linarith), mul_lt_mul_of_pos_left (by linarith) hpos⟩

theorem overflowBound_pos (F : FloatFormat) : 0 < overflowBound F :=
  (by positivity : (0 : ℚ) < 2 ^ F.emax).trans_le (overflowBound_bounds F).1

section
variable {F : FloatFormat} (hF : F.Valid) {x : ℚ} (hx : 0 < x)
include hF hx

omit hF in
theorem rationalSignificand_le : rationalSignificand F x ≤ 2 ^ (F.significandBits + 1) := by
  have hlt : rationalScaled F x < 2 ^ (F.significandBits + 1) := by
    rw [rationalScaled, div_lt_iff₀ (by positivity), pow_succ', mul_assoc, two_pow_mul_quantum, ← zpow_one_add₀ two_ne_zero,
      add_comm]
    exact lt_two_zpow_rationalExponent F hx
  refine (nearestEven_le_iff (rationalScaled_nonneg F hx) (even_two_pow_succ F.significandBits)).2 ?_
  push_cast
  linarith

/-- A significand below `2^T` comes only with the least exponent (43_float_common.md R103). -/
theorem rationalSignificand_normal_or_least :
    2 ^ F.significandBits ≤ rationalSignificand F x ∨ rationalExponent F x = F.emin := by
  obtain hk | hk := (emin_le_rationalExponent F (x := x)).lt_or_eq
  · have hle : 2 ^ F.significandBits ≤ rationalScaled F x := by
      rw [rationalScaled, le_div_iff₀ (by positivity), two_pow_mul_quantum]
      exact two_zpow_rationalExponent_le F hx hk
    refine .inl ((le_nearestEven_iff (rationalScaled_nonneg F hx) (even_two_pow_significandBits hF)).2 ?_)
    push_cast
    linarith
  · exact .inr hk.symm

/-! ### The thresholds of exponent and significand -/

theorem rationalSignificand_eq_zero_iff :
    rationalSignificand F x = 0 ↔ x ≤ (2 : ℚ) ^ (F.emin - F.significandBits - 1) := by
  have hhalf : rationalExponent F x = F.emin →
      (rationalSignificand F x = 0 ↔ x ≤ (2 : ℚ) ^ (F.emin - F.significandBits - 1)) := by
    intro hk
    rw [← Nat.le_zero, rationalSignificand, nearestEven_le_iff (rationalScaled_nonneg F hx) Even.zero, rationalScaled, hk,
      div_le_iff₀ (by positivity), zpow_sub_one₀ two_ne_zero (F.emin - F.significandBits)]
    norm_num [mul_comm]
  constructor
  · intro h0
    obtain hM | hk := rationalSignificand_normal_or_least hF hx
    · have hpos : 0 < 2 ^ F.significandBits := by positivity
      omega
    · exact (hhalf hk).1 h0
  · intro hle
    have hlt : (2 : ℚ) ^ (F.emin - F.significandBits - 1) < (2 : ℚ) ^ F.emin := zpow_lt_zpow_right₀ one_lt_two (by omega)
    exact (hhalf (rationalExponent_of_lt F hx (hle.trans_lt hlt))).2 hle

/-- Just below the least Normal number the significand is rounded up to it (43_float_common.md R105). -/
theorem rationalSignificand_of_near_least_normal
    (hlow : (1 - (2 : ℚ) ^ (-((F.significandBits : Int) + 1))) * (2 : ℚ) ^ F.emin ≤ x) (hhigh : x < (2 : ℚ) ^ F.emin) :
    rationalSignificand F x = 2 ^ F.significandBits := by
  have hm := rationalScaled_nonneg F hx
  have heven := even_two_pow_significandBits hF
  have hscaled : rationalScaled F x = x / (2 : ℚ) ^ (F.emin - F.significandBits) := by
    rw [rationalScaled, rationalExponent_of_lt F hx hhigh]
  apply le_antisymm
  · have hlt : rationalScaled F x < 2 ^ F.significandBits := by
      rwa [hscaled, div_lt_iff₀ (by positivity), two_pow_mul_quantum]
    refine (nearestEven_le_iff hm heven).2 ?_
    push_cast
    linarith
  · refine (le_nearestEven_iff hm heven).2 ?_
    rw [hscaled, le_div_iff₀ (by positivity)]
    rw [← half_quantum_below] at hlow
    simpa using hlow

/-- What exceeds the last exponent, by its own exponent or by the carry out of rounding (43_float_common.md R103). -/
theorem overflowBound_le_iff :
    overflowBound F ≤ x ↔
      F.emax < rationalExponent F x ∨
        rationalExponent F x = F.emax ∧ rationalSignificand F x = 2 ^ (F.significandBits + 1) := by
  obtain ⟨hlow, hhigh⟩ := overflowBound_bounds F
  obtain hk | hk | hk := lt_trichotomy (rationalExponent F x) F.emax
  · have hlt : x < (2 : ℚ) ^ F.emax :=
      (lt_two_zpow_rationalExponent F hx).trans_le (zpow_le_zpow_right₀ one_le_two hk)
    exact iff_of_false (by linarith) (by omega)
  · rw [← (rationalSignificand_le hx).ge_iff_eq, rationalSignificand,
      le_nearestEven_iff (rationalScaled_nonneg F hx) (even_two_pow_succ F.significandBits), rationalScaled, hk,
      le_div_iff₀ (by positivity), overflowBound, ← half_quantum_below]
    simp [pow_succ']
  · have hmin : F.emin < rationalExponent F x := (emin_le_emax hF).trans_lt hk
    have hge : (2 : ℚ) ^ (F.emax + 1) ≤ x :=
      (zpow_le_zpow_right₀ one_le_two hk).trans (two_zpow_rationalExponent_le F hx hmin)
    exact iff_of_true (by linarith) (.inl hk)

end

/-! ### The tail of the rounding at the thresholds -/

theorem finishRound_of_emax_lt {F : FloatFormat} (s : Bool) {k : Int} (m : Nat) (hk : F.emax < k) :
    finishRound F s k m = floatInfinity F s := by
  simp only [finishRound]
  exact if_pos (by split <;> omega)

/-- The carry out of rounding moves the exponent (43_float_common.md R103). -/
theorem finishRound_carry (F : FloatFormat) (s : Bool) (k : Int) :
    finishRound F s k (2 ^ (F.significandBits + 1)) = finishRound F s (k + 1) (2 ^ F.significandBits) := by
  simp [finishRound]

section
variable {F : FloatFormat} (hF : F.Valid) (s : Bool)
include hF

theorem finishRound_least_normal : finishRound F s F.emin (2 ^ F.significandBits) = encodeFloat F s 1 F.integerBit := by
  have hmin := emin_le_emax hF
  have hfield : (F.emin + F.bias).toNat = 1 := by rw [FloatFormat.emin]; omega
  simp [finishRound, hmin.not_gt, hfield]

omit hF in
theorem finishRound_zero {k : Int} (hk : k ≤ F.emax) : finishRound F s k 0 = floatZero F s := by
  have hcarry : 0 ≠ 2 ^ (F.significandBits + 1) := (Nat.two_pow_pos _).ne
  simp [finishRound, hcarry, hk.not_gt, floatZero]

/-- Without overflow the result is finite, of the class its significand tells (43_float_common.md R103). -/
theorem classify_finishRound {k : Int} {m : Nat} (hmin : F.emin ≤ k) (hm : m ≤ 2 ^ (F.significandBits + 1))
    (hk : 2 ^ F.significandBits ≤ m ∨ k = F.emin) (hfinite : ¬ (F.emax < k ∨ k = F.emax ∧ m = 2 ^ (F.significandBits + 1))) :
    classify F (finishRound F s k m) =
      if 2 ^ F.significandBits ≤ m then .normal else if m = 0 then .zero else .subnormal := by
  have hp : 2 ^ (F.significandBits + 1) = 2 * 2 ^ F.significandBits := pow_succ' ..
  have hpos : 0 < 2 ^ F.significandBits := by positivity
  obtain rfl | h0 := Nat.eq_zero_or_pos m
  · rw [finishRound_zero s (by omega), classify_floatZero hF, if_neg (by omega), if_pos rfl]
  obtain rfl | hlt := hm.eq_or_lt
  · obtain ⟨-, -, hc⟩ := finishRound_exact hF s (k := k + 1) (m := 2 ^ F.significandBits) (by omega) (by omega) hpos.ne' (by omega)
      (.inl le_rfl)
    rw [finishRound_carry, hc, if_pos le_rfl, if_pos (by omega)]
  · obtain ⟨-, -, hc⟩ := finishRound_exact hF s hmin (by omega) h0.ne' hlt hk
    rw [hc, if_neg h0.ne']

end

/-! ### The thresholds of rounding -/

section
variable {F : FloatFormat} (hF : F.Valid) (s : Bool) {x : ℚ} (hx : 0 ≤ x)
include hF

/-- From the bound of overflow on the result is infinity (43_float_common.md R105). -/
theorem roundRational_of_overflow (h : overflowBound F ≤ x) : roundRational F s x = floatInfinity F s := by
  have hpos : 0 < x := (overflowBound_pos F).trans_le h
  rw [roundRational_of_pos F s hpos]
  obtain hk | ⟨hk, hM⟩ := (overflowBound_le_iff hF hpos).1 h
  · exact finishRound_of_emax_lt s _ hk
  · rw [hM, finishRound_carry, hk]
    exact finishRound_of_emax_lt s _ (Int.lt_succ _)

/-- Below the bound of overflow the result is the finite one its significand tells (43_float_common.md R103, R105). -/
theorem classify_roundRational_of_pos (hpos : 0 < x) (h : ¬ overflowBound F ≤ x) :
    classify F (roundRational F s x) =
      if 2 ^ F.significandBits ≤ rationalSignificand F x then .normal
      else if rationalSignificand F x = 0 then .zero else .subnormal := by
  rw [roundRational_of_pos F s hpos]
  exact classify_finishRound hF s (emin_le_rationalExponent F) (rationalSignificand_le hpos)
    (rationalSignificand_normal_or_least hF hpos) (mt (overflowBound_le_iff hF hpos).2 h)

include hx

theorem roundRational_isFinite (h : ¬ overflowBound F ≤ x) : (classify F (roundRational F s x)).isFinite = true := by
  obtain rfl | hpos := hx.eq_or_lt
  · rw [roundRational_zero, classify_floatZero hF]; rfl
  · rw [classify_roundRational_of_pos hF s hpos h]
    split_ifs <;> rfl

theorem classify_roundRational_infinity_iff : classify F (roundRational F s x) = .infinity ↔ overflowBound F ≤ x := by
  constructor
  · intro hc
    by_contra h
    have hfinite := roundRational_isFinite hF s hx h
    rw [hc] at hfinite
    cases hfinite
  · intro h
    rw [roundRational_of_overflow hF s h, classify_floatInfinity hF]

theorem roundRational_eq_infinity_iff : roundRational F s x = floatInfinity F s ↔ overflowBound F ≤ x := by
  refine ⟨fun h => ?_, roundRational_of_overflow hF s⟩
  rw [← classify_roundRational_infinity_iff hF s hx, h, classify_floatInfinity hF]

/-- The result is zero up to half the least subnormal, the tie included (43_float_common.md R105). -/
theorem roundRational_eq_zero_iff :
    roundRational F s x = floatZero F s ↔ x ≤ (2 : ℚ) ^ (F.emin - F.significandBits - 1) := by
  obtain rfl | hpos := hx.eq_or_lt
  · exact iff_of_true (roundRational_zero F s) (by positivity)
  rw [← rationalSignificand_eq_zero_iff hF hpos]
  constructor
  · intro h
    have hc := classify_floatZero hF s
    rw [← h] at hc
    have hno : ¬ overflowBound F ≤ x := by
      rw [← classify_roundRational_infinity_iff hF s hx, hc]
      decide
    rw [classify_roundRational_of_pos hF s hpos hno] at hc
    split_ifs at hc with hM h0
    exact h0
  · intro h0
    have hpow : 0 < 2 ^ F.significandBits := by positivity
    have hk : rationalExponent F x = F.emin := (rationalSignificand_normal_or_least hF hpos).resolve_left (by omega)
    rw [roundRational_of_pos F s hpos, h0, hk, finishRound_zero s (emin_le_emax hF)]

end

theorem roundRational_near_least_normal {F : FloatFormat} (hF : F.Valid) (s : Bool) {x : ℚ}
    (hlow : (1 - (2 : ℚ) ^ (-((F.significandBits : Int) + 1))) * (2 : ℚ) ^ F.emin ≤ x) (hhigh : x < (2 : ℚ) ^ F.emin) :
    roundRational F s x = encodeFloat F s 1 F.integerBit := by
  have hlt : (2 : ℚ) ^ (-((F.significandBits : Int) + 1)) < 1 := zpow_lt_one_of_neg₀ one_lt_two (by omega)
  have hpos : 0 < x := (mul_pos (sub_pos.2 hlt) (by positivity)).trans_le hlow
  rw [roundRational_of_pos F s hpos, rationalSignificand_of_near_least_normal hF hpos hlow hhigh,
    rationalExponent_of_lt F hpos hhigh, finishRound_least_normal hF]

/-- Settles O43: the thresholds are those at which the nearest integer reaches `2^(T+1)` at the last exponent, 1 and `2^T` at the
least. -/
theorem roundingThresholds : Obligations.RoundingThresholds := by
  intro F hmem s x hx
  have hF := valid_of_mem_allFormats hmem
  refine ⟨roundRational_eq_infinity_iff hF s hx, fun h => ?_, roundRational_eq_zero_iff hF s hx, fun hlow hhigh => ?_⟩
  · exact roundRational_isFinite hF s hx (mt (roundRational_eq_infinity_iff hF s hx).2 h)
  · exact roundRational_near_least_normal hF s (by rwa [mul_comm]) hhigh

end Sys2Proof.Machine
end

section
/-! PROOFS. Exact and overflowing integer conversions (44_int_to_float.md §1): a short integer is a number of every format, and of the
integers of every width only an unsigned 128-bit one reaches the bound of overflow, that of F32. -/

namespace Sys2Proof.Machine

/-! ### The range of integers and formats -/

theorem le_128_of_mem_allWidths {N : Nat} (h : N ∈ allWidths) : N ≤ 128 := by
  revert N
  decide

theorem emax_of_mem_allFormats {F : FloatFormat} (h : F ∈ allFormats) : 127 ≤ F.emax ∧ (F ≠ F32 → 128 ≤ F.emax) := by
  revert F
  decide

/-- An unsigned integer is below `2^N`, a signed one at most half of that (00_scope.md R9). -/
theorem natAbs_integerOf_bound (N : Nat) (signed : Bool) (p : Word) :
    (integerOf N signed p).natAbs < 2 ^ N ∧ (signed = true → 2 * (integerOf N signed p).natAbs ≤ 2 ^ N) := by
  cases signed with
  | false => exact ⟨Nat.mod_lt _ (Nat.two_pow_pos N), fun h => by cases h⟩
  | true =>
    have hpos := Nat.two_pow_pos N
    have hlow := BitVec.le_two_mul_toInt (x := p.setWidth N)
    have hhigh := BitVec.two_mul_toInt_lt (x := p.setWidth N)
    rw [integerOf, if_pos rfl, signedOf]
    have hcast : ((2 ^ N : ℕ) : Int) = 2 ^ N := by push_cast; rfl
    exact ⟨by omega, fun _ => by omega⟩

/-- An integer is the operand of its own port (30_encoding.md R52, R54). -/
theorem intOperand_toPort {N : Nat} (hN : N ≤ 128) (x : BitVec N) : intOperand N (toPort x) = x := by
  rw [← BitVec.toNat_inj, intOperand_toNat, toPort_toNat x hN, Nat.mod_eq_of_lt x.isLt]

theorem integerOf_unsigned_toPort {N : Nat} (hN : N ≤ 128) (x : BitVec N) : integerOf N false (toPort x) = x.toNat := by
  rw [integerOf, if_neg Bool.false_ne_true, toPort_toNat x hN, Nat.mod_eq_of_lt x.isLt]

/-! ### Short integers -/

/-- Sign and magnitude of an integer are the integer. -/
theorem sign_mul_natAbs (z : Int) : (if decide (z < 0) then (-1 : ℚ) else 1) * z.natAbs = z := by
  obtain h | h := lt_or_ge z 0
  · simp [Nat.cast_natAbs, abs_of_neg h, h]
  · simp [Nat.cast_natAbs, abs_of_nonneg h, h.not_gt]

/-- An integer below `2^128` of at most T + 1 significant bits is a number of every format (44_int_to_float.md §1). -/
theorem Magnitude.fitsIn_of_integer {F : FloatFormat} (hmem : F ∈ allFormats) {m k : Nat} (h0 : m ≠ 0)
    (hm : m < 2 ^ (F.significandBits + 1)) (hlt : m * 2 ^ k < 2 ^ 128) : (⟨m, k⟩ : Magnitude).FitsIn F := by
  have hbias := (bias_bounds (valid_of_mem_allFormats hmem)).1
  have hemin : F.emin = 1 - F.bias := rfl
  obtain ⟨hemax, -⟩ := emax_of_mem_allFormats hmem
  have hlog : Nat.log2 m + k < 128 := by
    rw [← log2_mul_two_pow k h0]
    exact (Nat.log2_lt (by positivity)).2 hlt
  constructor <;> dsimp only <;> omega

/-- An integer of at most T + 1 significant bits is rounded to itself (44_int_to_float.md §1). -/
theorem roundRational_of_short {F : FloatFormat} (hmem : F ∈ allFormats) {z : Int} {m k : Nat} (hz : z.natAbs = m * 2 ^ k)
    (hm : m < 2 ^ (F.significandBits + 1)) (hlt : z.natAbs < 2 ^ 128) :
    (classify F (roundRational F (decide (z < 0)) z.natAbs)).isFinite = true ∧
    floatValue F (roundRational F (decide (z < 0)) z.natAbs) = z := by
  have hF := valid_of_mem_allFormats hmem
  obtain rfl | h0 := eq_or_ne m 0
  · obtain rfl : z = 0 := by simpa using hz
    have hc := classify_floatZero hF false
    simp [floatValue_of_zero hc, hc, FloatClass.isFinite]
  · have hvalue : (z.natAbs : ℚ) = (⟨m, k⟩ : Magnitude).value := by rw [hz, Magnitude.value]; push_cast; simp
    obtain ⟨hs, hmag, hc⟩ := roundFloat_of_fitsIn hF (decide (z < 0)) (Magnitude.fitsIn_of_integer hmem h0 hm (hz ▸ hlt))
    rw [← hvalue] at hmag
    rw [hvalue, ← roundFloat_eq_roundRational]
    refine ⟨?_, by rw [floatValue, hs, hmag]; exact sign_mul_natAbs z⟩
    rw [hc]
    split <;> rfl

/-! ### Overflow -/

theorem overflowBound_F32 : overflowBound F32 = ((2 ^ 128 - 2 ^ 103 : ℕ) : ℚ) := by
  norm_num [overflowBound, F32, FloatFormat.emax]

/-- Of the integers below `2^128` those from `2^128 - 2^103` on reach the bound of overflow, of F32 alone (44_int_to_float.md §1). -/
theorem overflowBound_le_natCast_iff {F : FloatFormat} (hmem : F ∈ allFormats) {n : Nat} (hn : n < 2 ^ 128) :
    overflowBound F ≤ n ↔ F = F32 ∧ 2 ^ 128 - 2 ^ 103 ≤ n := by
  by_cases hF : F = F32
  · subst hF
    rw [overflowBound_F32, Nat.cast_le]
    simp
  · refine iff_of_false (fun hle => ?_) (fun h => hF h.1)
    have hpow : (2 : ℚ) ^ (128 : Int) ≤ 2 ^ F.emax := zpow_le_zpow_right₀ one_le_two ((emax_of_mem_allFormats hmem).2 hF)
    have hlt : (n : ℚ) < 2 ^ (128 : Int) := by exact_mod_cast hn
    have hlow := (overflowBound_bounds F).1
    linarith

theorem classify_integerToFloat_infinity_iff {N : Nat} (hN : N ≤ 128) {F : FloatFormat} (hmem : F ∈ allFormats) (signed : Bool)
    (p : Word) :
    classify F (integerToFloat N F signed (intOperand N p)) = .infinity ↔
      F = F32 ∧ 2 ^ 128 - 2 ^ 103 ≤ (integerOf N signed p).natAbs := by
  have hlt := (natAbs_integerOf_bound N signed p).1.trans_le (Nat.pow_le_pow_right two_pos hN)
  rw [integerToFloat_eq_roundRational,
    classify_roundRational_infinity_iff (valid_of_mem_allFormats hmem) _ (Nat.cast_nonneg _),
    overflowBound_le_natCast_iff hmem hlt]

/-- Of the integers of all widths only an unsigned 128-bit one can be as large as the bound (44_int_to_float.md §1). -/
theorem width_of_large_integer {N : Nat} (hN : N ∈ allWidths) {signed : Bool} {p : Word}
    (h : 2 ^ 128 - 2 ^ 103 ≤ (integerOf N signed p).natAbs) : N = 128 ∧ signed = false := by
  obtain ⟨hlt, hsigned⟩ := natAbs_integerOf_bound N signed p
  simp only [allWidths, List.mem_cons, List.not_mem_nil, or_false] at hN
  obtain rfl | rfl | rfl := hN
  · omega
  · omega
  · refine ⟨rfl, Bool.eq_false_iff.2 fun hs => ?_⟩
    have hle := hsigned hs
    omega

/-! ### The statements -/

/-- Settles O49: the magnitude of the integer is a number of the format, which rounding keeps. -/
theorem shortIntegersConvertExactly : Obligations.ShortIntegersConvertExactly := by
  intro N hN F hmem signed p m k hz hm
  have hlt := (natAbs_integerOf_bound N signed p).1.trans_le (Nat.pow_le_pow_right two_pos (le_128_of_mem_allWidths hN))
  rw [integerToFloat_eq_roundRational]
  exact roundRational_of_short hmem hz hm hlt

/-- Settles O50: the bound of overflow of F32 is `2^128 - 2^103`, those of the other formats exceed every integer. -/
theorem onlyU128ToF32Overflows : Obligations.OnlyU128ToF32Overflows := by
  intro N hN F hmem signed x
  have hle := le_128_of_mem_allWidths hN
  have hiff := classify_integerToFloat_infinity_iff hle hmem signed (toPort x)
  rw [intOperand_toPort hle] at hiff
  rw [hiff]
  constructor
  · rintro ⟨hF, hlarge⟩
    obtain ⟨hN128, rfl⟩ := width_of_large_integer hN hlarge
    rw [integerOf_unsigned_toPort hle, Int.natAbs_natCast] at hlarge
    exact ⟨hN128, hF, rfl, hlarge⟩
  · rintro ⟨-, hF, rfl, hlarge⟩
    rw [integerOf_unsigned_toPort hle, Int.natAbs_natCast]
    exact ⟨hF, hlarge⟩

end Sys2Proof.Machine
end
